-- ==== Sys2Proof/Word.lean ====
section
/-! DEFINITION. Words, indices and fixed-size tables of the PAVIMOR 4S64 model. -/

namespace Sys2Proof

/-- A byte of the register window or of a bus. -/
abbrev Byte := BitVec 8

/-- TIME, the tick count and every millisecond field of 16 bits (Conventions, TIME). -/
abbrev Word16 := BitVec 16

/-- A membership mask: LT n is bit n (R19). -/
abbrev Mask64 := BitVec 64

/-- The 7-bit bus address of a target (Conventions, BUS ADDRESSES). -/
abbrev BusAddr := BitVec 7

/-- One of the 1024 window addresses (R177). -/
abbrev WinAddr := BitVec 10

/-- LT0 to LT63. -/
abbrev LtId := Fin 64

/-- SEG0 to SEG3. -/
abbrev SegId := Fin 4

/-- GRP0 to GRP7. -/
abbrev GroupId := Fin 8

/-- Operation slots 0 to 23. -/
abbrev SlotId := Fin 24

/-- Request contexts 0 to 15. -/
abbrev CtxId := Fin 16

/-- SV0 to SV31; mirror slot n belongs to SVn. -/
abbrev SvId := Fin 32

/-- The item at index `i` of a fixed-size table. -/
def look {α : Type} {n : Nat} (t : Vector α n) (i : Fin n) : α := t[i.val]'i.isLt

/-- The table with the item at index `i` replaced. -/
def put {α : Type} {n : Nat} (t : Vector α n) (i : Fin n) (a : α) : Vector α n :=
  t.set i.val a i.isLt

/-- Time elapsed since a reference point, counted modulo 65536 (Conventions, TIME; R184). -/
def elapsed (since now : Word16) : Nat := (now - since).toNat

end Sys2Proof
end

