-- ==== Sys2Proof/Syntax.lean ====
section
/-! DEFINITION. The commands the block takes: one constructor per row of spec/opcode_table.json.
The table gives no operands; an operand here is what the environment supplies with the event: a byte
of a host frame, the index of the thing whose time has come, or what was seen on a bus. -/

namespace Sys2Proof

/-- What one byte of a transaction showed (R77, R79): an address or written byte acknowledged, not
acknowledged, or lost to another controller; or a byte read from the target with the acknowledge bit that
followed it, the engine's own (`true` is low, acknowledged). -/
inductive BusByte where
  | acked
  | nacked
  | lost
  | read (value : Byte) (acked : Bool)
  deriving DecidableEq, Repr

/-- What a transaction has carried: its bytes in order, and how many of them had completed when the first
of the stop requests held was made (R89); without a stop request `atStop` has no meaning. -/
structure BusTrace where
  bytes  : List BusByte
  atStop : Nat
  deriving DecidableEq, Repr

/-- The two lines of a segment as seen at one moment (R119): `true` is high. -/
structure Lines where
  clock : Bool
  data  : Bool
  deriving DecidableEq, Repr

/-- The two lines of a segment as seen at a tick (R119): their levels, and whether each changed level
at any moment since the tick before, by whichever party. -/
structure TickLines where
  clock      : Bool
  data       : Bool
  clockMoved : Bool
  dataMoved  : Bool
  deriving DecidableEq, Repr

/-- What a recovery that fails has seen (R121): the lines at the end of each wait, in order, and whether the
data line has changed level at any moment since the last tick, by whichever party (R119). -/
structure FailedRecovery where
  seen      : List Lines
  dataMoved : Bool
  deriving DecidableEq, Repr

/-- The commands. Each constructor's docstring names its row and the rule that gives its effect. -/
inductive Instr where
  /-- FRAME_START (R177): CS_N falls; `header` holds the direction byte and the two address bytes, as
  far as the frame gets. -/
  | frameStart (header : List Byte)
  /-- FRAME_END (R179): CS_N rises; `midByte` says that a byte is part-way through. -/
  | frameEnd (midByte : Bool)
  /-- WINDOW_WRITE (R178): a data byte of a write frame completes. -/
  | windowWrite (value : Byte)
  /-- CQ_THRESHOLD_WRITE (R141): the data byte that completes lands at 0x012. -/
  | cqThresholdWrite (value : Byte)
  /-- COALESCE_TIME_WRITE (R141): the data byte that completes lands at 0x013. -/
  | coalesceTimeWrite (value : Byte)
  /-- ENABLES_WRITE (R183): the data byte that completes lands at 0x011. -/
  | enablesWrite (value : Byte)
  /-- TIME_CAPTURE (R178): the read frame reaches `addr`, 0x004 or 0x005. -/
  | timeCapture (addr : WinAddr)
  /-- CQ_HEAD_CAPTURE (R138): the read frame reaches `addr` in the completion window. -/
  | cqHeadCapture (addr : WinAddr)
  /-- NQ_HEAD_CAPTURE (R175): the read frame reaches `addr` in the notice window. -/
  | nqHeadCapture (addr : WinAddr)
  /-- MIRROR_SNAPSHOT (R181): the read frame reaches `addr` in the mirror. -/
  | mirrorSnapshot (addr : WinAddr)
  /-- SOFT_RESET (R185). -/
  | softReset
  /-- DEVICE_RESET (R185): RESET_N falls. -/
  | deviceReset
  /-- RESET_RELEASE (R184): RESET_N rises. -/
  | resetRelease
  /-- ENGINE_RESET (R186). -/
  | engineReset
  /-- PAUSE (R43). -/
  | pause
  /-- RESUME (R43). -/
  | resume
  /-- CLEAR_RQ_SPACE (R183). -/
  | clearRqSpace
  /-- CLEAR_HOST_MISUSE (R183). -/
  | clearHostMisuse
  /-- SUBMIT (R28). -/
  | submit
  /-- CQ_POP (R139). -/
  | cqPop
  /-- NQ_POP (R175). -/
  | nqPop
  /-- MAP_SET (R4). -/
  | mapSet
  /-- MAP_RETIRE (R7). -/
  | mapRetire
  /-- MAP_REINSTATE (R14). -/
  | mapReinstate
  /-- MAP_READ (R17). -/
  | mapRead
  /-- GROUP_SET (R20). -/
  | groupSet
  /-- GROUP_READ (R22). -/
  | groupRead
  /-- SEGMENT_CONFIG (R74). -/
  | segmentConfig
  /-- SEGMENT_ENABLE (R75). -/
  | segmentEnable
  /-- SEGMENT_DISABLE (R127). -/
  | segmentDisable
  /-- SEGMENT_CLEAR (R126). -/
  | segmentClear
  /-- ALERT_RESUME (R172). -/
  | alertResume
  /-- SURVEY_SET (R149). -/
  | surveySet
  /-- SURVEY_START (R150). -/
  | surveyStart
  /-- SURVEY_STOP (R151). -/
  | surveyStop
  /-- SURVEY_READ (R152). -/
  | surveyRead
  /-- CANCEL (R114). -/
  | cancel
  /-- UNKNOWN_COMMAND (R182). -/
  | unknownCommand
  /-- TICK (R184): the 100 µs tick, with the lines of SEG0 to SEG3 as seen at it (R119). -/
  | tick (seg0 seg1 seg2 seg3 : TickLines)
  /-- BACKOFF_EXPIRY (R103) of one slot. -/
  | backoffExpiry (slot : SlotId)
  /-- TIME_STEP (R184). -/
  | timeStep
  /-- QUEUED_DEADLINE_EXPIRY (R39) of the QUEUED entry that holds `tag`. -/
  | queuedDeadlineExpiry (tag : Byte)
  /-- CONTEXT_DEADLINE_PASSES (R105) of one context. -/
  | contextDeadlinePasses (ctx : CtxId)
  /-- SURVEY_FALLS_DUE (R153) of one entry. -/
  | surveyFallsDue (entry : SvId)
  /-- BUS_START_SEEN (R76): a start condition made by another party. -/
  | busStartSeen (seg : SegId)
  /-- BUS_FREE_DETECTED (R76). -/
  | busFreeDetected (seg : SegId)
  /-- BUSY_LIMIT_EXPIRY (R76). -/
  | busyLimitExpiry (seg : SegId)
  /-- STRETCH_LIMIT_EXPIRY (R78), after the bytes completed so far, with the lines as released. -/
  | stretchLimitExpiry (seg : SegId) (trace : BusTrace) (lines : Lines)
  /-- STOP_AT_BYTE_BOUNDARY (R89): the bytes completed up to the boundary. -/
  | stopAtByteBoundary (seg : SegId) (trace : BusTrace)
  /-- TRANSACTION_END (R88): the bytes of the whole transaction, with the lines at its end. -/
  | transactionEnd (seg : SegId) (trace : BusTrace) (lines : Lines)
  /-- ALERT_ASSERTED (R168): the alert line of the segment goes low. -/
  | alertAsserted (seg : SegId)
  /-- ALERT_RELEASED (R168): the alert line of the segment goes high. -/
  | alertReleased (seg : SegId)
  /-- RECOVERY_SUCCEEDS (R122): what the procedure of R121 saw, wait by wait. -/
  | recoverySucceeds (seg : SegId) (seen : List Lines)
  /-- RECOVERY_FAILS (R123): what the procedure of R121 saw. -/
  | recoveryFails (seg : SegId) (trace : FailedRecovery)
  deriving DecidableEq, Repr

end Sys2Proof
end

