-- ==== Sys2Proof/Config.lean ====
section
/-! DEFINITION. What the part fixes: capacities (00_scope.md TABLE 3), identification bytes (TABLE 71)
and the limits the rules name. The spec leaves no value open, so there is no free value here. -/

namespace Sys2Proof.Config

/-- R32: the RQ holds at most 32 entries. -/
def rqCapacity : Nat := 32

/-- R138: the CQ holds at most 32 records. -/
def cqCapacity : Nat := 32

/-- R173: the NQ holds at most 16 records. -/
def nqCapacity : Nat := 16

/-- R10: FAIL_COUNT saturates at 15. R160: CONSEC_FAILS saturates at 15. -/
def failCeiling : Nat := 15

/-- R174, R161, R142: DROPPED, OVERRUNS and AGE saturate at 255. -/
def byteCeiling : Nat := 255

/-- R95: CONSEC_HOST counts up to 8. -/
def consecHostCeiling : Nat := 8

/-- R171: collection is suspended when REPEAT_COUNT reaches 8. -/
def alertRepeatLimit : Nat := 8

/-- R171: collection is suspended when NACK_COUNT reaches 3. -/
def alertNackLimit : Nat := 3

/-- R121: a recovery makes at most 16 clock pulses. -/
def recoveryPulseLimit : Nat := 16

/-- R184: TIME advances at every tenth tick. -/
def ticksPerMs : Nat := 10

/-- TABLE 71: DEVICE_ID. -/
def deviceId : Byte := 0x5C

/-- TABLE 71: REVISION. -/
def revision : Byte := 0x02

/-- TABLE 71: the trigger value of SUBMIT, CQ_POP, NQ_POP and EXECUTE. -/
def trigger : Byte := 0x01

/-- Conventions: the lowest bus address of a target. -/
def busAddrLow : Nat := 0x08

/-- Conventions: the highest bus address of a target. -/
def busAddrHigh : Nat := 0x77

end Sys2Proof.Config
end

