-- ==== Sys2Proof/Machine/State.lean ====
section
/-! DEFINITION. The state of the 4S64, block by block (00_scope.md TABLE 1), as plain data, and its
value right after device reset. -/

namespace Sys2Proof.Machine

/-! ### Requests (R24) -/

/-- KIND (TABLE 14). -/
inductive Kind where
  | write | read | writeRead | probe | blockRead
  deriving DecidableEq, Repr

/-- PRIORITY (TABLE 13). -/
inductive Priority where
  | normal | urgent
  deriving DecidableEq, Repr

/-- TARGET with TARGET_IS_GROUP (TABLE 13). -/
inductive Target where
  | lt (n : LtId)
  | group (g : GroupId)
  deriving DecidableEq, Repr

/-- The request record (TABLE 13); WRITE_LENGTH is the length of `writeData`. -/
structure Request where
  tag         : Byte
  kind        : Kind
  target      : Target
  priority    : Priority
  retryBudget : Nat
  deadline    : Word16
  writeData   : List Byte
  readLength  : Nat
  deriving DecidableEq, Repr

/-- Outcomes of attempts, survey reads and operations, and the reasons a member fails at admission
(TABLE 34, TABLE 56). -/
inductive Outcome where
  | done | addressNack | dataNack | arbitrationLost | busBusyTimeout | stretchTimeout
  | blockLengthError | aborted | cancelled | expired | targetIsolated | targetRetired
  | segmentDisabled | segmentFaulted
  deriving DecidableEq, Repr

/-- A request's STATUS (TABLE 56): OK, GROUP_POLICY_FAILED, or the outcome that became the status. -/
inductive Status where
  | ok
  | groupPolicyFailed
  | of (o : Outcome)
  deriving DecidableEq, Repr

/-- SUBMIT_RESULT (TABLE 16). -/
inductive SubmitResult where
  | none | accepted | badFormat | groupKind | unknownTarget | tagInUse | queueFull
  deriving DecidableEq, Repr

/-- COMMAND_RESULT (TABLE 72). -/
inductive CommandResult where
  | none | done | accepted | inUse | notSet | conflict | badArgument | notIsolated | notStopped
  | notFaulted | notFound | tooLate | unknownCommand
  deriving DecidableEq, Repr

/-! ### Target map (R1) and group table (R19) -/

/-- The state of a map entry that is not FREE (TABLE 6). -/
inductive Bound where
  | active | isolated | draining
  deriving DecidableEq, Repr

/-- The binding fields, present while the entry is not FREE, with the STATE they go with (TABLE 5). -/
structure Binding where
  state         : Bound
  segment       : SegId
  address       : BusAddr
  threshold     : Nat
  autoReinstate : Bool
  deriving DecidableEq, Repr

/-- A map entry (TABLE 5): `binding` is absent exactly while STATE is FREE. -/
structure MapEntry where
  binding   : Option Binding
  failCount : Nat
  refCount  : Nat
  deriving DecidableEq, Repr

/-- POLICY, with QUORUM present only in QUORUM (TABLE 12). -/
inductive Policy where
  | all
  | any
  | quorum (count : Nat)
  deriving DecidableEq, Repr

/-- A group (TABLE 12). -/
structure Group where
  members : Mask64
  policy  : Policy
  deriving DecidableEq, Repr

/-! ### Request queue (R36), contexts (R54), slots (R57) -/

/-- The finish fields of an RQ entry (TABLE 17); `failSet` is present for group requests. -/
structure RqFinish where
  status     : Status
  finishTime : Word16
  failSet    : Option Mask64
  deriving DecidableEq, Repr

/-- An RQ entry (TABLE 17): QUEUED while `finish` is absent, FINISHED while it is present. -/
structure RqEntry where
  request      : Request
  acceptTime   : Word16
  deadlineTime : Option Word16
  finish       : Option RqFinish
  deriving DecidableEq, Repr

/-- A member entry (TABLE 23). -/
structure Member where
  lt         : LtId
  outcome    : Option Outcome
  attempts   : Nat
  bytesAcked : Nat
  deriving DecidableEq, Repr

/-- What a context holds once FINISHED (TABLE 22). -/
structure CtxFinish where
  status     : Status
  finishTime : Word16
  bytesAcked : Option Nat
  deriving DecidableEq, Repr

/-- A held request context (TABLE 22): RUNNING while `finish` is absent. `policy` is present for group
requests, `deadlinePassed` when the request has a deadline, `result` for a read that ended DONE. -/
structure Context where
  request         : Request
  acceptTime      : Word16
  deadlineTime    : Option Word16
  outstanding     : Nat
  members         : List Member
  result          : Option (List Byte)
  cancelRequested : Bool
  policy          : Option Policy
  deadlinePassed  : Option Bool
  finish          : Option CtxFinish
  deriving DecidableEq, Repr

/-- The state of an occupied slot (TABLE 24). BACKOFF holds BACKOFF_EXPIRY and the tick count its
backoff began at, the reference point it is compared from (R184). -/
inductive SlotState where
  | pending
  | backoff (start expiry : Word16)
  | active (abortMark : Bool)
  deriving DecidableEq, Repr

/-- An occupied operation slot (TABLE 24). `lastAcked` is the BYTES_ACKED of its last attempt, which its
member entry takes at the slot end (R56). -/
structure OpSlot where
  state     : SlotState
  context   : CtxId
  member    : Nat
  lt        : LtId
  segment   : SegId
  address   : BusAddr
  kind      : Kind
  priority  : Priority
  attempts  : Nat
  lastAcked : Nat
  deriving DecidableEq, Repr

/-! ### Segment engines (R71) -/

/-- SPEED (TABLE 31). -/
inductive Speed where
  | standard | fast | fastPlus
  deriving DecidableEq, Repr

/-- The eight settings of a segment (TABLE 31). -/
structure SegConfig where
  speed        : Speed
  stretchLimit : Nat
  busyLimit    : Nat
  stuckTime    : Nat
  retryGap     : Nat
  surveyShare  : Nat
  alertAddress : BusAddr
  alertEnable  : Bool
  deriving DecidableEq, Repr

/-- One byte of a transaction as the engine is to carry it (TABLE 33): an address byte with its
direction, a written byte, a read byte with the acknowledge bit the engine drives after it (R77), or the
count byte of a BLOCK_READ with the largest count accepted. -/
inductive BusItem where
  | addressWrite (a : BusAddr)
  | addressRead (a : BusAddr)
  | write (b : Byte)
  | read (ack : Bool)
  | count (limit : Nat)
  deriving DecidableEq, Repr

/-- What an ended transaction hands on (R86): its outcome, BYTES_ACKED, whether an address byte was
acknowledged, and the bytes read. -/
structure AttemptResult where
  outcome    : Outcome
  bytesAcked : Nat
  addrAcked  : Bool
  data       : List Byte
  deriving DecidableEq, Repr

/-- The work granted (R71): a slot with its KIND, a survey entry, or an alert query. -/
inductive Work where
  | host (slot : SlotId) (kind : Kind)
  | survey (entry : SvId)
  | alert
  deriving DecidableEq, Repr

/-- PHASE of the current transaction (TABLE 29); in STOPPING its outcome is already fixed (R78). -/
inductive Phase where
  | waitFree
  | transfer
  | stopping (fixed : AttemptResult)
  deriving DecidableEq, Repr

/-- STOP_REQUEST (TABLE 29): the reasons held. -/
structure StopRequest where
  cancel  : Bool
  disable : Bool
  reset   : Bool
  deriving DecidableEq, Repr

/-- CURRENT with its PHASE and STOP_REQUEST (TABLE 29). `lt` is the map entry the transaction refers to
(R5), absent for an alert query; `script` is the transaction it carries. -/
structure Current where
  work   : Work
  lt     : Option LtId
  script : List BusItem
  phase  : Phase
  stop   : StopRequest
  deriving DecidableEq, Repr

/-- Entry cause of a recovery (R121). -/
inductive EntryCause where
  | check | stretch | clear
  deriving DecidableEq, Repr

/-- The line a failed recovery found held (R121). -/
inductive LineHeld where
  | clock | data | both
  deriving DecidableEq, Repr

/-- What the recovery procedure holds (R121). -/
structure Recovery where
  pulses : Nat
  cause  : EntryCause
  held   : Option LineHeld
  deriving DecidableEq, Repr

/-- Segment STATE (TABLE 30), with CURRENT present exactly in BUSY (R71) and the recovery procedure's
values in RECOVERING and, on failure, in FAULTED (R121). -/
inductive SegState where
  | disabled
  | idle
  | busy (current : Current)
  | recovering (r : Recovery)
  | faulted (r : Recovery)
  deriving DecidableEq, Repr

/-- One line of a segment: its level (`true` is high) and the ticks since it last changed (R119). -/
structure Line where
  high   : Bool
  steady : Nat
  deriving DecidableEq, Repr

/-- Alert collector state (TABLE 65). -/
structure AlertState where
  lastAddress : Option BusAddr
  repeatCount : Nat
  nackCount   : Nat
  suspended   : Bool
  deriving DecidableEq, Repr

/-- A segment engine (TABLE 29), with its line times (R119) and the level of its alert input (R168). -/
structure Segment where
  state       : SegState
  config      : SegConfig
  pendingList : List SlotId
  dueList     : List SvId
  consecHost  : Nat
  busFree     : Bool
  alert       : AlertState
  clockLine   : Line
  dataLine    : Line
  alertLow    : Bool
  deriving DecidableEq, Repr

/-! ### Survey engine (R147) and mirror (R164) -/

/-- MODE with the fields it makes present (TABLE 59). -/
inductive SurveyMode where
  | none
  | change (mask : Mask64)
  | window (low high : Mask64)
  deriving DecidableEq, Repr

/-- The configuration fields of a survey entry (TABLE 59); `selector` is present with SELECTOR_PRESENT
yes. -/
structure SurveyConf where
  lt            : LtId
  selector      : Option Byte
  length        : Nat
  period        : Word16
  startOffset   : Word16
  mode          : SurveyMode
  failThreshold : Nat
  notifyFirst   : Bool
  deriving DecidableEq, Repr

/-- DUE_TIME with the reference point it was made from (R153). -/
structure DueTime where
  time  : Word16
  since : Word16
  deriving DecidableEq, Repr

/-- EXIT_TO (TABLE 59). -/
inductive ExitTo where
  | waiting | stopped | orphaned
  deriving DecidableEq, Repr

/-- The state of a survey entry that is not UNUSED (TABLE 60). -/
inductive SurveyRun where
  | stopped
  | waiting (d : DueTime)
  | due (d : DueTime)
  | reading (d : DueTime) (exitTo : ExitTo)
  | held
  | orphaned
  deriving DecidableEq, Repr

/-- Configuration and state of an entry that is not UNUSED. -/
structure SurveySetup where
  conf : SurveyConf
  run  : SurveyRun
  deriving DecidableEq, Repr

/-- WINDOW_STATE (R159). -/
inductive WindowState where
  | unknown | below | inside | above
  deriving DecidableEq, Repr

/-- A survey entry (TABLE 59): UNUSED exactly while `setup` is absent. -/
structure SurveyEntry where
  setup       : Option SurveySetup
  consecFails : Nat
  overruns    : Nat
  windowState : WindowState
  deriving DecidableEq, Repr

/-- Mirror slot STATUS (TABLE 62). -/
inductive MirrorStatus where
  | empty | valid | stale
  deriving DecidableEq, Repr

/-- A mirror slot (TABLE 62), less the two counts, which are its entry's. -/
structure MirrorSlot where
  generation   : Word16
  status       : MirrorStatus
  valueLength  : Nat
  value        : Mask64
  lastReadTime : Word16
  deriving DecidableEq, Repr

/-- The 16 bytes of a mirror slot as a snapshot holds them (R181): the slot with its entry's counts. -/
structure MirrorView where
  slot        : MirrorSlot
  overruns    : Nat
  consecFails : Nat
  deriving DecidableEq, Repr

/-! ### Completion unit (R134 to R142) and notice unit (R173) -/

/-- A finished item, by reference (R134): an RQ entry by its TAG, or a context. -/
inductive PostItem where
  | entry (tag : Byte)
  | context (c : CtxId)
  deriving DecidableEq, Repr

/-- A completion record (TABLE 55). -/
structure CompletionRecord where
  tag        : Byte
  status     : Status
  kind       : Kind
  target     : Target
  attempts   : Nat
  finishTime : Word16
  result     : Option (List Byte)
  bytesAcked : Option Nat
  successSet : Option Mask64
  failSet    : Option Mask64
  deriving DecidableEq, Repr

/-- A record in the CQ with its AGE (R142). -/
structure CqItem where
  record : CompletionRecord
  age    : Nat
  deriving DecidableEq, Repr

/-- The completion unit's state. -/
structure CompletionUnit where
  posting   : List PostItem
  cq        : List CqItem
  threshold : Nat
  coalesce  : Nat
  deriving DecidableEq, Repr

/-- Cause of an alert suspension (R171). -/
inductive StuckCause where
  | repeated | noAck
  deriving DecidableEq, Repr

/-- KIND, SUBJECT and DETAIL of a notice (TABLE 67). -/
inductive NoticeBody where
  | alert (lt : LtId) (seg : SegId) (addr : BusAddr) (state : Bound)
  | strayAlert (seg : SegId) (addr : BusAddr) (response : Byte)
  | alertStuck (seg : SegId) (cause : StuckCause) (addr : BusAddr)
  | surveyChange (sv : SvId) (generation : Word16) (value : Mask64)
  | surveyWindow (sv : SvId) (new previous : WindowState) (generation : Word16) (value : Mask64)
  | surveyFailed (sv : SvId) (lt : LtId) (outcome : Outcome) (fails : Nat)
  | surveyRecovered (sv : SvId) (generation : Word16) (value : Mask64)
  | targetIsolated (lt : LtId) (seg : SegId) (addr : BusAddr) (failCount : Nat)
  | targetReinstated (lt : LtId) (seg : SegId) (addr : BusAddr)
  | targetRetired (lt : LtId) (seg : SegId) (addr : BusAddr)
  | segmentFault (seg : SegId) (pulses : Nat) (held : LineHeld) (cause : EntryCause)
  | segmentRecovered (seg : SegId) (pulses : Nat) (cause : EntryCause)
  deriving DecidableEq, Repr

/-- A notice record (R173). -/
structure Notice where
  body          : NoticeBody
  time          : Word16
  droppedBefore : Nat
  deriving DecidableEq, Repr

/-- The notice unit's state. -/
structure NoticeUnit where
  nq      : List Notice
  dropped : Nat
  deriving DecidableEq, Repr

/-! ### Host port (R177), timebase (R184), interrupt unit (R183) -/

/-- The actions a frame can mark (R179), in the order they are taken. -/
inductive Action where
  | softReset | engineReset | pause | resume | clearRqSpace | clearHostMisuse | submit | cqPop
  | nqPop | execute
  deriving DecidableEq, Repr

/-- Frame state (TABLE 69). In ADDRESS, `high` holds the low two bits of the first address byte once it
has completed; in DATA, `addr` is the window address of the next byte and `first` says that no data byte
has completed yet. -/
inductive FrameState where
  | noFrame
  | direction
  | address (isRead : Bool) (high : Option (BitVec 2))
  | data (isRead : Bool) (addr : WinAddr) (first : Bool)
  deriving DecidableEq, Repr

/-- The host port and the registers of the window it owns (TABLE 71): pins, frame state, marks and
captures of the frame, actions handed out at frame end, staging area, command block. -/
structure HostPort where
  csN           : Bool
  resetN        : Bool
  frame         : FrameState
  marks         : List Action
  timeCapture   : Option Word16
  cqCapture     : Option (Option CompletionRecord)
  nqCapture     : Option (Option Notice)
  snapshots     : Vector (Option MirrorView) 32
  actions       : List Action
  staging       : Vector Byte 42
  submitByte    : Byte
  submitCount   : Nat
  submitResult  : SubmitResult
  commandCode   : Byte
  args          : Vector Byte 60
  commandResult : CommandResult
  deriving DecidableEq, Repr

/-- The timebase (R184): TIME, the tick count, and the ticks since TIME last advanced. -/
structure Timebase where
  time     : Word16
  tick     : Word16
  subTicks : Nat
  deriving DecidableEq, Repr

/-- The interrupt unit (R183): the latched causes, the enables and the IRQ_N output (`true` is
released). -/
structure InterruptUnit where
  rqSpace    : Bool
  hostMisuse : Bool
  enables    : Byte
  irqN       : Bool
  deriving DecidableEq, Repr

/-! ### The whole -/

/-- The state of the 4S64 and the queue of commands waiting to be taken. -/
structure State where
  pending    : List Instr
  port       : HostPort
  timebase   : Timebase
  irq        : InterruptUnit
  map        : Vector MapEntry 64
  groups     : Vector Group 8
  rq         : List RqEntry
  paused     : Bool
  contexts   : Vector (Option Context) 16
  slots      : Vector (Option OpSlot) 24
  segs       : Vector Segment 4
  survey     : Vector SurveyEntry 32
  mirror     : Vector MirrorSlot 32
  completion : CompletionUnit
  notices    : NoticeUnit
  deriving DecidableEq, Repr

/-- Why the machine could stop: never. The part has no fault stop; what goes wrong it reports in its
registers, records and notices, and every command ends in a next state. -/
inductive Fault where
  deriving DecidableEq, Repr

/-- Why a command could be refused. -/
inductive Refusal where
  /-- Raised by `exec` alone, for a command that has no meaning yet; safe, since nothing follows from a
  refusal. No arm raises it. -/
  | notModelled (mnemonic : String)
  deriving DecidableEq, Repr

/-! ### Reset values -/

/-- R177, R179, R181: the host port without a frame. -/
def HostPort.reset : HostPort where
  csN           := true
  resetN        := true
  frame         := .noFrame
  marks         := []
  timeCapture   := none
  cqCapture     := none
  nqCapture     := none
  snapshots     := Vector.replicate 32 none
  actions       := []
  staging       := Vector.replicate 42 0
  submitByte    := 0
  submitCount   := 0
  submitResult  := .none
  commandCode   := 0
  args          := Vector.replicate 60 0
  commandResult := .none

/-- R184: both counts at 0. -/
def Timebase.reset : Timebase := ⟨0, 0, 0⟩

/-- R183: causes and enables 0, IRQ_N released. -/
def InterruptUnit.reset : InterruptUnit := ⟨false, false, 0, true⟩

/-- R18: FREE, binding absent, both counts 0. -/
def MapEntry.free : MapEntry := ⟨none, 0, 0⟩

/-- R23: no member, POLICY ALL. -/
def Group.undefined : Group := ⟨0, .all⟩

/-- TABLE 31: the reset settings. -/
def SegConfig.reset : SegConfig := ⟨.standard, 25, 35, 35, 10, 4, 0x0C, false⟩

/-- TABLE 65: the cleared collector. -/
def AlertState.cleared : AlertState := ⟨none, 0, 0, false⟩

/-- R97: DISABLED with the reset settings, nothing listed, BUS_FREE no. -/
def Segment.reset : Segment where
  state       := .disabled
  config      := SegConfig.reset
  pendingList := []
  dueList     := []
  consecHost  := 0
  busFree     := false
  alert       := AlertState.cleared
  clockLine   := ⟨true, 0⟩
  dataLine    := ⟨true, 0⟩
  alertLow    := false

/-- R165: UNUSED. -/
def SurveyEntry.unused : SurveyEntry := ⟨none, 0, 0, .unknown⟩

/-- R149, R165: the cleared mirror slot. -/
def MirrorSlot.cleared : MirrorSlot := ⟨0, .empty, 0, 0, 0⟩

/-- R146: posting list and CQ empty, CQ_THRESHOLD 1, COALESCE_TIME 0. -/
def CompletionUnit.reset : CompletionUnit := ⟨[], [], 1, 0⟩

/-- R176: NQ empty, DROPPED 0. -/
def NoticeUnit.reset : NoticeUnit := ⟨[], 0⟩

/-- The machine right after device reset, each block at the values its chapter gives, with RESET_N
released (log 4) and the input pins at rest (log 5). -/
def State.reset : State where
  pending    := []
  port       := HostPort.reset
  timebase   := Timebase.reset
  irq        := InterruptUnit.reset
  map        := Vector.replicate 64 MapEntry.free
  groups     := Vector.replicate 8 Group.undefined
  rq         := []
  paused     := false
  contexts   := Vector.replicate 16 none
  slots      := Vector.replicate 24 none
  segs       := Vector.replicate 4 Segment.reset
  survey     := Vector.replicate 32 SurveyEntry.unused
  mirror     := Vector.replicate 32 MirrorSlot.cleared
  completion := CompletionUnit.reset
  notices    := NoticeUnit.reset

end Sys2Proof.Machine
end

