-- ==== Sys2Proof/Machine/Ops.lean ====
section
/-! DEFINITION. The named reads and writes of the state that every block uses: one entry of a table,
the interrupt unit's latches, a notice, the RQ, REF_COUNT, the due lists. -/

namespace Sys2Proof.Machine

/-! ### One entry of a table -/

/-- The map entry of `lt`. -/
def State.entry (s : State) (lt : LtId) : MapEntry := look s.map lt

/-- Write the map entry of `lt`. -/
def State.putEntry (s : State) (lt : LtId) (e : MapEntry) : State := { s with map := put s.map lt e }

/-- Segment engine `i`. -/
def State.seg (s : State) (i : SegId) : Segment := look s.segs i

/-- Write segment engine `i`. -/
def State.putSeg (s : State) (i : SegId) (g : Segment) : State := { s with segs := put s.segs i g }

/-- Slot `k`: absent while FREE. -/
def State.slot (s : State) (k : SlotId) : Option OpSlot := look s.slots k

/-- Write slot `k`. -/
def State.putSlot (s : State) (k : SlotId) (o : Option OpSlot) : State :=
  { s with slots := put s.slots k o }

/-- Context `c`: absent while free. -/
def State.ctx (s : State) (c : CtxId) : Option Context := look s.contexts c

/-- Write context `c`. -/
def State.putCtx (s : State) (c : CtxId) (x : Option Context) : State :=
  { s with contexts := put s.contexts c x }

/-- Survey entry `n`. -/
def State.sv (s : State) (n : SvId) : SurveyEntry := look s.survey n

/-- Write survey entry `n`. -/
def State.putSv (s : State) (n : SvId) (e : SurveyEntry) : State :=
  { s with survey := put s.survey n e }

/-- Mirror slot `n`. -/
def State.mirrorSlot (s : State) (n : SvId) : MirrorSlot := look s.mirror n

/-- Write mirror slot `n`. -/
def State.putMirror (s : State) (n : SvId) (m : MirrorSlot) : State :=
  { s with mirror := put s.mirror n m }

/-- The value of TIME when an event is taken (Conventions: "now"). -/
def State.now (s : State) : Word16 := s.timebase.time

/-- The segment state of engine `i`. -/
def State.segState (s : State) (i : SegId) : SegState := (s.seg i).state

/-- Set the segment state of engine `i`. -/
def State.putSegState (s : State) (i : SegId) (st : SegState) : State :=
  s.putSeg i { s.seg i with state := st }

/-! ### Segment states -/

/-- IDLE. -/
def SegState.isIdle : SegState → Bool
  | .idle => true
  | _ => false

/-- DISABLED. -/
def SegState.isDisabled : SegState → Bool
  | .disabled => true
  | _ => false

/-- IDLE or BUSY: the states in which a survey entry may run (R150, R162). -/
def SegState.isServing : SegState → Bool
  | .idle => true
  | .busy _ => true
  | _ => false

/-! ### Interrupt causes and notices -/

/-- R180: latch HOST_MISUSE. -/
def latchMisuse (s : State) : State := { s with irq := { s.irq with hostMisuse := true } }

/-- R37: latch RQ_SPACE. -/
def latchRqSpace (s : State) : State := { s with irq := { s.irq with rqSpace := true } }

/-- R174: a notice joins the NQ tail with DROPPED_BEFORE, or is discarded and counted when the NQ holds
16 records. -/
def postNotice (b : NoticeBody) (s : State) : State :=
  if s.notices.nq.length < Config.nqCapacity then
    { s with notices := ⟨s.notices.nq ++ [⟨b, s.now, s.notices.dropped⟩], 0⟩ }
  else
    { s with notices := { s.notices with dropped := min (s.notices.dropped + 1) Config.byteCeiling } }

/-- R37: the RQ becomes `q`; a fall of its count from 32 latches RQ_SPACE. -/
def setRq (q : List RqEntry) (s : State) : State :=
  if s.rq.length = Config.rqCapacity ∧ q.length < Config.rqCapacity then
    latchRqSpace { s with rq := q }
  else
    { s with rq := q }

/-! ### Requests -/

/-- QUEUED (R36). -/
def RqEntry.queued (e : RqEntry) : Bool := e.finish.isNone

/-- Whether a request names a group (TARGET_IS_GROUP). -/
def Request.isGroup (r : Request) : Bool :=
  match r.target with
  | .lt _ => false
  | .group _ => true

/-- R31: the tags held by RQ entries and request contexts. -/
def heldTags (s : State) : List Byte :=
  s.rq.map (·.request.tag) ++ s.contexts.toList.filterMap (·.map (·.request.tag))

/-- Members of a mask in member order, ascending LT number (R19). -/
def maskMembers (m : Mask64) : List LtId := (List.finRange 64).filter fun lt => m.getLsbD lt.val

/-- The mask of a set of logical targets (R19). -/
def maskOf (l : List LtId) : Mask64 := l.foldl (fun m lt => m ||| BitVec.twoPow 64 lt.val) 0

/-! ### Survey entries and due lists -/

/-- The logical target an entry names, while it is not UNUSED. -/
def State.svLt (s : State) (n : SvId) : Option LtId := (s.sv n).setup.map (·.conf.lt)

/-- R147: an entry's segment is the SEGMENT of the map entry its LT names. -/
def State.svSeg (s : State) (n : SvId) : Option SegId :=
  (s.svLt n).bind fun lt => (s.entry lt).binding.map (·.segment)

/-- The running state of an entry that is not UNUSED. -/
def State.svRun (s : State) (n : SvId) : Option SurveyRun := (s.sv n).setup.map (·.run)

/-- Set the running state of an entry that is not UNUSED. -/
def State.putSvRun (s : State) (n : SvId) (r : SurveyRun) : State :=
  s.putSv n { s.sv n with setup := (s.sv n).setup.map fun u => { u with run := r } }

/-- DUE_TIME of a DUE entry. -/
def State.svDueTime (s : State) (n : SvId) : Word16 :=
  match s.svRun n with
  | some (.due d) => d.time
  | _ => s.now

/-- R153: an entry with `t1`, `n1` stands before one with `t2`, `n2`: the earlier DUE_TIME, the one
furthest back from now, first; among equal ones the lower entry number. -/
def dueBefore (now t1 : Word16) (n1 : SvId) (t2 : Word16) (n2 : SvId) : Bool :=
  decide (elapsed t2 now < elapsed t1 now) || (t1 == t2 && decide (n1 < n2))

/-- R153: place an entry in a due list by the order; the entries listed keep theirs. -/
def insertDue (first : SvId → Bool) (n : SvId) : List SvId → List SvId
  | [] => [n]
  | x :: xs => if first x then n :: x :: xs else x :: insertDue first n xs

/-- R153: the entry becomes DUE with `d` and joins the due list of segment `i`. -/
def joinDue (n : SvId) (i : SegId) (d : DueTime) (s : State) : State :=
  let s' := s.putSvRun n (.due d)
  let g := s'.seg i
  s'.putSeg i
    { g with dueList := insertDue (fun x => dueBefore s.now d.time n (s'.svDueTime x) x) n g.dueList }

/-- R153: the entry is given the due time `interval` after `since`: it becomes WAITING, or DUE at once
when that time has come. -/
def setDueTime (n : SvId) (i : SegId) (since : Word16) (interval : Word16) (s : State) : State :=
  let d : DueTime := ⟨since + interval, since⟩
  if interval.toNat ≤ elapsed since s.now then joinDue n i d s else s.putSvRun n (.waiting d)

/-- Take an entry out of the due list it stands in. -/
def leaveDue (n : SvId) (s : State) : State :=
  match s.svSeg n with
  | none => s
  | some i => s.putSeg i { s.seg i with dueList := (s.seg i).dueList.filter (· != n) }

/-- Fold an operation over the survey entries in entry order. -/
def forSurvey (f : SvId → State → State) (s : State) : State :=
  (List.finRange 32).foldl (fun t n => f n t) s

/-- R12, R123, R128, R162: a WAITING or DUE entry becomes HELD, leaving the due list. -/
def holdEntry (n : SvId) (s : State) : State :=
  match s.svRun n with
  | some (.waiting _) => s.putSvRun n .held
  | some (.due _) => (leaveDue n s).putSvRun n .held
  | _ => s

/-- R162: a HELD entry whose LT is ACTIVE and whose segment is IDLE or BUSY becomes WAITING with
DUE_TIME now, and so falls due at once. -/
def releaseEntry (n : SvId) (s : State) : State :=
  match s.svRun n, s.svLt n with
  | some .held, some lt =>
    match (s.entry lt).binding with
    | some b =>
      if b.state = .active ∧ (s.segState b.segment).isServing then setDueTime n b.segment s.now 0 s
      else s
    | none => s
  | _, _ => s

/-- R162: release the HELD entries of segment `i`. -/
def releaseSegment (i : SegId) : State → State :=
  forSurvey fun n s => if s.svSeg n = some i then releaseEntry n s else s

/-- R12: release the HELD entries naming `lt`. -/
def releaseTarget (lt : LtId) : State → State :=
  forSurvey fun n s => if s.svLt n = some lt then releaseEntry n s else s

/-- R6: every survey entry naming `lt` that is neither UNUSED nor ORPHANED becomes ORPHANED. -/
def orphanTarget (lt : LtId) : State → State :=
  forSurvey fun n s => if s.svLt n = some lt then (leaveDue n s).putSvRun n .orphaned else s

/-- R8: what an accepted MAP_RETIRE does to one survey entry: a READING entry records ORPHANED in
EXIT_TO, any other becomes ORPHANED at once. -/
def retireEntry (n : SvId) (s : State) : State :=
  match s.svRun n with
  | some (.reading d _) => s.putSvRun n (.reading d .orphaned)
  | some _ => (leaveDue n s).putSvRun n .orphaned
  | none => s

/-! ### References and retirement -/

/-- R6: the entry becomes FREE, its survey entries are orphaned, and TARGET_RETIRED is posted when
`post` says so (an engine reset posts none, R18). -/
def completeRetirement (lt : LtId) (b : Binding) (post : Bool) (s : State) : State :=
  let s := (orphanTarget lt s).putEntry lt MapEntry.free
  if post then postNotice (.targetRetired lt b.segment b.address) s else s

/-- R5: REF_COUNT rises by one. -/
def addRef (lt : LtId) (s : State) : State :=
  s.putEntry lt { s.entry lt with refCount := (s.entry lt).refCount + 1 }

/-- R5: REF_COUNT falls by one; a fall to 0 on a DRAINING entry completes the retirement (R6). -/
def releaseRef (lt : LtId) (s : State) : State :=
  let e := s.entry lt
  let s' := s.putEntry lt { e with refCount := e.refCount - 1 }
  match e.binding with
  | some b => if b.state = .draining ∧ e.refCount = 1 then completeRetirement lt b true s' else s'
  | none => s'

/-! ### Pending lists -/

/-- R59: the slot leaves the pending list of segment `i`; the others keep their order. -/
def leavePending (i : SegId) (k : SlotId) (s : State) : State :=
  s.putSeg i { s.seg i with pendingList := (s.seg i).pendingList.filter (· != k) }

/-- R62: `x` placed directly after the last item that satisfies `p`, or at the head when none does. -/
def insertAfterLast (p : SlotId → Bool) (x : SlotId) : List SlotId → List SlotId
  | [] => [x]
  | y :: ys =>
    if ys.any p then y :: insertAfterLast p x ys
    else if p y then y :: x :: ys
    else x :: y :: ys

/-- R61, R62: the pending list after the placement of slot `k` with its LT and priority. -/
def placeIn (slots : SlotId → Option OpSlot) (k : SlotId) (lt : LtId) (p : Priority)
    (l : List SlotId) : List SlotId :=
  match p with
  | .normal => l ++ [k]
  | .urgent =>
    insertAfterLast
      (fun y => match slots y with
        | some o => o.priority == .urgent || o.lt == lt
        | none => false)
      k l

/-- R64: the first PENDING slot such that no slot before it names the same LT; `seen` holds the LTs
named so far. -/
def eligibleFrom (slots : SlotId → Option OpSlot) : List SlotId → List LtId → Option SlotId
  | [], _ => none
  | k :: ks, seen =>
    match slots k with
    | some o =>
      if o.state = .pending ∧ o.lt ∉ seen then some k else eligibleFrom slots ks (o.lt :: seen)
    | none => eligibleFrom slots ks seen

/-- R64: the eligible operation of segment `i`. -/
def eligible (i : SegId) (s : State) : Option SlotId :=
  eligibleFrom s.slot (s.seg i).pendingList []

end Sys2Proof.Machine
end

