-- ==== Sys2Proof/Machine/Flags.lean ====
section
/-! DEFINITION. Conditions, causes and statuses: CQ_READY, NQ_READY and IRQ_N (R143, R175, R183), the
stuck-line judgement (R119), and the STATUS and BYTES_ACKED of a finishing request (R56, R132, R133). -/

namespace Sys2Proof.Machine

/-! ### Interrupts -/

/-- R143: the CQ count has reached CQ_THRESHOLD, or the head has waited COALESCE_TIME. -/
def cqReady (u : CompletionUnit) : Bool :=
  decide (u.threshold ≤ u.cq.length) ||
    (u.coalesce != 0 &&
      match u.cq with
      | [] => false
      | h :: _ => decide (u.coalesce ≤ h.age))

/-- R175: the NQ is not empty. -/
def nqReady (u : NoticeUnit) : Bool := !u.nq.isEmpty

/-- R183: CAUSES, bit 0 CQ_READY, bit 1 NQ_READY, bit 2 RQ_SPACE, bit 3 HOST_MISUSE. -/
def causes (s : State) : Byte :=
  (if cqReady s.completion then 1 else 0) ||| (if nqReady s.notices then 2 else 0) |||
    (if s.irq.rqSpace then 4 else 0) ||| (if s.irq.hostMisuse then 8 else 0)

/-- R183: IRQ_N is driven low while at least one cause is 1 with its enable 1 (`true` is released). -/
def irqLevel (s : State) : Bool := causes s &&& s.irq.enables == 0

/-- R183: IRQ_N judged afresh. -/
def judgeIrq (s : State) : State := { s with irq := { s.irq with irqN := irqLevel s } }

/-! ### Lines -/

/-- R119: the line is low and has been steady for STUCK_TIME (ms). -/
def Line.heldLow (l : Line) (stuckTime : Nat) : Bool :=
  !l.high && decide (stuckTime * Config.ticksPerMs ≤ l.steady)

/-- R120: the stuck-line check fails. -/
def stuckCheckFails (g : Segment) : Bool :=
  g.clockLine.heldLow g.config.stuckTime || g.dataLine.heldLow g.config.stuckTime

/-- R119: a line seen at a level; a change starts its time again. -/
def Line.seen (l : Line) (high : Bool) : Line := if l.high = high then l else ⟨high, 0⟩

/-- R119: a line at an event that shows its level, and whether it has moved since the last tick. -/
def Line.shown (l : Line) (high moved : Bool) : Line := if moved then ⟨high, 0⟩ else l.seen high

/-- R119: a line at a tick: its time starts again if it moved, and otherwise goes on by one. -/
def Line.atTick (l : Line) (high moved : Bool) : Line :=
  if moved ∨ l.high ≠ high then ⟨high, 0⟩ else ⟨high, l.steady + 1⟩

/-- R76, R119: the data line at a start condition, which is its fall. -/
def Line.fallen : Line := ⟨false, 0⟩

/-- R76, R120: a start condition can be made at once: BUS_FREE is yes and neither line is low (log 12). -/
def Segment.canStart (g : Segment) : Bool := g.busFree && g.clockLine.high && g.dataLine.high

/-- Both lines of a segment seen at one moment. -/
def Segment.seeLines (g : Segment) (l : Lines) : Segment :=
  { g with clockLine := g.clockLine.seen l.clock, dataLine := g.dataLine.seen l.data }

/-! ### Outcomes -/

/-- TABLE 34: the retryable outcomes. -/
def Outcome.retryable : Outcome → Bool
  | .addressNack => true
  | .arbitrationLost => true
  | .busBusyTimeout => true
  | _ => false

/-- R10: the target failures. -/
def Outcome.targetFailure : Outcome → Bool
  | .addressNack => true
  | .stretchTimeout => true
  | _ => false

/-- R10, TABLE 9: FAIL_COUNT after a transaction. -/
def failCountAfter (r : AttemptResult) (count : Nat) : Nat :=
  if r.outcome.targetFailure then min (count + 1) Config.failCeiling
  else if r.addrAcked then 0
  else count

/-! ### Request status -/

/-- R132: the STATUS of a single-target request from its member's outcome. -/
def singleStatus (o : Outcome) (cancelRequested : Bool) : Status :=
  if o = .done then .ok
  else if (o = .cancelled ∨ o = .aborted) ∧ cancelRequested then .of .cancelled
  else .of o

/-- R133: the policy is met by `done` members of `all`. -/
def policyMet (p : Policy) (done all : Nat) : Bool :=
  match p with
  | .all => decide (done = all)
  | .any => decide (1 ≤ done)
  | .quorum n => decide (n ≤ done)

/-- R133: the STATUS of a group request. -/
def groupStatus (p : Policy) (members : List Member) (cancelRequested : Bool) : Status :=
  if cancelRequested ∧
      members.any (fun m => m.outcome == some .cancelled || m.outcome == some .aborted) then
    .of .cancelled
  else if policyMet p (members.filter (·.outcome == some .done)).length members.length then .ok
  else .groupPolicyFailed

/-- R132, R133: the STATUS a context finishes with. -/
def contextStatus (x : Context) : Status :=
  match x.policy with
  | some p => groupStatus p x.members x.cancelRequested
  | none =>
    match x.members.head?.bind (·.outcome) with
    | some o => singleStatus o x.cancelRequested
    | none => .of .cancelled

/-- The smallest of a list, or 0 when it is empty (R56). -/
def smallest : List Nat → Nat
  | [] => 0
  | n :: ns => ns.foldl min n

/-- The largest of a list, or 0 when it is empty (R137). -/
def largest (l : List Nat) : Nat := l.foldl max 0

/-- R56: BYTES_ACKED of a finishing context: for a single target the member's, for a group WRITE the
smallest over the members with at least one attempt. -/
def contextBytesAcked (x : Context) : Option Nat :=
  if x.request.kind = .write ∨ x.request.kind = .writeRead then
    if x.request.isGroup then
      some (smallest ((x.members.filter fun m => decide (1 ≤ m.attempts)).map (·.bytesAcked)))
    else some ((x.members.head?.map (·.bytesAcked)).getD 0)
  else none

end Sys2Proof.Machine
end

