-- ==== Sys2Proof/Machine/Operands.lean ====
section
/-! DEFINITION. Operand forms: the codes of TABLE 72, the staging area read as a request (TABLE 73,
R29), the arguments of a command (TABLE 76), and the little-endian fields of the window. -/

namespace Sys2Proof.Machine

/-! ### Bytes and little-endian fields -/

/-- A number as a byte. -/
def byteOf (n : Nat) : Byte := BitVec.ofNat 8 n

/-- yes/no (TABLE 72). -/
def boolByte (b : Bool) : Byte := if b then 1 else 0

/-- Byte `k` of a 64-bit number, byte 0 the least significant (Conventions, MULTI-BYTE FIELDS). -/
def byteAt (v : Mask64) (k : Nat) : Byte := BitVec.ofNat 8 (v.toNat >>> (8 * k))

/-- A byte list as one unsigned number, the first byte the least significant. -/
def leNat : List Byte → Nat
  | [] => 0
  | b :: bs => b.toNat + 256 * leNat bs

/-- The low and the high byte of a 16-bit field. -/
def word16Bytes (w : Word16) : List Byte := [BitVec.ofNat 8 w.toNat, BitVec.ofNat 8 (w.toNat >>> 8)]

/-- The eight bytes of a mask or of a value. -/
def mask64Bytes (v : Mask64) : List Byte := (List.range 8).map (byteAt v)

/-- A number as an index below `n`, or nothing when it is too large. -/
def indexOf? (n : Nat) (v : Nat) : Option (Fin n) := if h : v < n then some ⟨v, h⟩ else none

/-! ### Codes (TABLE 72) -/

/-- KIND codes. -/
def Kind.code : Kind → Byte
  | .write => 0x01
  | .read => 0x02
  | .writeRead => 0x03
  | .probe => 0x04
  | .blockRead => 0x05

/-- The KIND of a code. -/
def kindOf? (b : Byte) : Option Kind :=
  if b = 0x01 then some .write
  else if b = 0x02 then some .read
  else if b = 0x03 then some .writeRead
  else if b = 0x04 then some .probe
  else if b = 0x05 then some .blockRead
  else none

/-- The PRIORITY of a code. -/
def priorityOf? (b : Byte) : Option Priority :=
  if b = 0 then some .normal else if b = 1 then some .urgent else none

/-- The value of a yes/no code. -/
def boolOf? (b : Byte) : Option Bool :=
  if b = 0 then some false else if b = 1 then some true else none

/-- SUBMIT_RESULT codes. -/
def SubmitResult.code : SubmitResult → Byte
  | .none => 0x00
  | .accepted => 0x01
  | .badFormat => 0x20
  | .groupKind => 0x21
  | .unknownTarget => 0x22
  | .tagInUse => 0x23
  | .queueFull => 0x24

/-- STATUS and outcome codes. DONE and ABORTED are shown in no window field and have no code
(07_completion.md, STATUS AND OUTCOME CODES): they read 0. -/
def Outcome.code : Outcome → Byte
  | .done => 0x00
  | .addressNack => 0x02
  | .dataNack => 0x03
  | .arbitrationLost => 0x04
  | .busBusyTimeout => 0x05
  | .stretchTimeout => 0x06
  | .blockLengthError => 0x07
  | .aborted => 0x00
  | .cancelled => 0x08
  | .expired => 0x09
  | .targetIsolated => 0x0A
  | .targetRetired => 0x0B
  | .segmentDisabled => 0x0C
  | .segmentFaulted => 0x0D

/-- STATUS codes of a record; 0x00 is EMPTY. -/
def Status.code : Status → Byte
  | .ok => 0x01
  | .groupPolicyFailed => 0x0E
  | .of o => o.code

/-- COMMAND_RESULT codes. -/
def CommandResult.code : CommandResult → Byte
  | .none => 0x00
  | .done => 0x01
  | .accepted => 0x02
  | .inUse => 0x10
  | .notSet => 0x11
  | .conflict => 0x12
  | .badArgument => 0x13
  | .notIsolated => 0x14
  | .notStopped => 0x15
  | .notFaulted => 0x16
  | .notFound => 0x17
  | .tooLate => 0x18
  | .unknownCommand => 0x19

/-- map STATE codes. -/
def Bound.code : Bound → Byte
  | .active => 1
  | .isolated => 2
  | .draining => 3

/-- segment STATE codes. -/
def SegState.code : SegState → Byte
  | .disabled => 0
  | .idle => 1
  | .busy _ => 2
  | .recovering _ => 3
  | .faulted _ => 4

/-- The SPEED of a code. -/
def speedOf? (b : Byte) : Option Speed :=
  if b = 0 then some .standard
  else if b = 1 then some .fast
  else if b = 2 then some .fastPlus
  else none

/-- POLICY codes. -/
def Policy.code : Policy → Byte
  | .all => 0
  | .any => 1
  | .quorum _ => 2

/-- survey STATE codes; 0 is UNUSED. -/
def SurveyRun.code : SurveyRun → Byte
  | .stopped => 1
  | .waiting _ => 2
  | .due _ => 3
  | .reading _ _ => 4
  | .held => 5
  | .orphaned => 6

/-- EXIT_TO codes; 0 is absent. -/
def ExitTo.code : ExitTo → Byte
  | .waiting => 2
  | .stopped => 1
  | .orphaned => 6

/-- WINDOW_STATE codes. -/
def WindowState.code : WindowState → Byte
  | .unknown => 0
  | .below => 1
  | .inside => 2
  | .above => 3

/-- mirror STATUS codes. -/
def MirrorStatus.code : MirrorStatus → Byte
  | .empty => 0
  | .valid => 1
  | .stale => 2

/-- ALERT_STUCK cause codes. -/
def StuckCause.code : StuckCause → Byte
  | .repeated => 1
  | .noAck => 2

/-- line held codes. -/
def LineHeld.code : LineHeld → Byte
  | .clock => 1
  | .data => 2
  | .both => 3

/-- entry cause codes. -/
def EntryCause.code : EntryCause → Byte
  | .check => 1
  | .stretch => 2
  | .clear => 3

/-! ### The staging area (TABLE 73) -/

/-- Byte `k` of the staging area, window address 0x053 + k. -/
def HostPort.stagingAt (p : HostPort) (k : Fin 42) : Byte := look p.staging k

/-- TARGET with TARGET_IS_GROUP in range: an LT number up to 63 or a group number up to 7 (R29). -/
def targetOf? (isGroup : Bool) (b : Byte) : Option Target :=
  if isGroup then (indexOf? 8 b.toNat).map .group else (indexOf? 64 b.toNat).map .lt

/-- R29 step 1: the staging area as a request when every field holds one of its values (TABLE 13), with
WRITE_DATA copied up to WRITE_LENGTH (R24). -/
def stagedRequest? (p : HostPort) : Option Request :=
  match kindOf? (p.stagingAt 1), boolOf? (p.stagingAt 2), priorityOf? (p.stagingAt 4) with
  | some kind, some isGroup, some priority =>
    match targetOf? isGroup (p.stagingAt 3) with
    | some target =>
      if (p.stagingAt 5).toNat ≤ 7 ∧ (p.stagingAt 8).toNat ≤ 32 ∧ (p.stagingAt 9).toNat ≤ 32 then
        some
          { tag := p.stagingAt 0, kind := kind, target := target, priority := priority
            retryBudget := (p.stagingAt 5).toNat
            deadline := BitVec.ofNat 16 (leNat [p.stagingAt 6, p.stagingAt 7])
            writeData := (p.staging.toList.drop 10).take (p.stagingAt 8).toNat
            readLength := (p.stagingAt 9).toNat }
      else none
    | none => none
  | _, _, _ => none

/-- R29 step 2: a group request is a WRITE or a PROBE. -/
def Request.groupKindOk (r : Request) : Bool :=
  !r.isGroup || r.kind == .write || r.kind == .probe

/-- R29 step 3: WRITE_LENGTH and READ_LENGTH match KIND (TABLE 14). -/
def Request.lengthsOk (r : Request) : Bool :=
  let w := r.writeData.length
  let n := r.readLength
  match r.kind with
  | .write => decide (1 ≤ w ∧ n = 0)
  | .read => decide (w = 0 ∧ 1 ≤ n)
  | .writeRead => decide (1 ≤ w ∧ 1 ≤ n)
  | .probe => decide (w = 0 ∧ n = 0)
  | .blockRead => decide (w = 1 ∧ 1 ≤ n)

/-! ### Command arguments (TABLE 76) -/

/-- The byte at offset `k`, window address 0x101 + k. -/
def State.arg (s : State) (k : Fin 60) : Byte := look s.port.args k

/-- The `n` bytes from offset `k` on. -/
def State.argBytes (s : State) (k n : Nat) : List Byte := (s.port.args.toList.drop k).take n

/-- The 16-bit argument at offset `k`. -/
def State.argWord (s : State) (k : Nat) : Word16 := BitVec.ofNat 16 (leNat (s.argBytes k 2))

/-- The 64-bit argument at offset `k`. -/
def State.argMask (s : State) (k : Nat) : Mask64 := BitVec.ofNat 64 (leNat (s.argBytes k 8))

/-- The LT argument at offset 0, or nothing when it is above 63. -/
def State.argLt? (s : State) : Option LtId := indexOf? 64 (s.arg 0).toNat

/-- The segment argument at offset 0, or nothing when it is above 3. -/
def State.argSeg? (s : State) : Option SegId := indexOf? 4 (s.arg 0).toNat

/-- The group argument at offset 0, or nothing when it is above 7. -/
def State.argGroup? (s : State) : Option GroupId := indexOf? 8 (s.arg 0).toNat

/-- The survey entry argument at offset 0, or nothing when it is above 31. -/
def State.argSv? (s : State) : Option SvId := indexOf? 32 (s.arg 0).toNat

/-- A bus address byte in the range 0x08 to 0x77 (Conventions). -/
def busAddrOf? (b : Byte) : Option BusAddr :=
  if Config.busAddrLow ≤ b.toNat ∧ b.toNat ≤ Config.busAddrHigh then some (b.setWidth 7) else none

/-- R4 check 1: the arguments of MAP_SET. -/
def mapSetArgs? (s : State) : Option (LtId × Binding) :=
  match s.argLt?, indexOf? 4 (s.arg 1).toNat, busAddrOf? (s.arg 2), boolOf? (s.arg 4) with
  | some lt, some seg, some addr, some auto =>
    if (s.arg 3).toNat ≤ 15 then some (lt, ⟨.active, seg, addr, (s.arg 3).toNat, auto⟩) else none
  | _, _, _, _ => none

/-- Number of bits set in a mask. -/
def bitCount (m : Mask64) : Nat := (maskMembers m).length

/-- R20 checks 1 to 3: the arguments of GROUP_SET. -/
def groupSetArgs? (s : State) : Option (GroupId × Group) :=
  let m := s.argMask 1
  let q := (s.arg 10).toNat
  match s.argGroup? with
  | none => none
  | some g =>
    if bitCount m > 16 then none
    else if s.arg 9 = 0 then some (g, ⟨m, .all⟩)
    else if s.arg 9 = 1 then some (g, ⟨m, .any⟩)
    else if s.arg 9 = 2 then
      if q = 0 ∨ q > bitCount m then none else some (g, ⟨m, .quorum q⟩)
    else none

/-- R74 check 1: the arguments of SEGMENT_CONFIG. -/
def segConfigArgs? (s : State) : Option (SegId × SegConfig) :=
  match s.argSeg?, speedOf? (s.arg 1), busAddrOf? (s.arg 7), boolOf? (s.arg 8) with
  | some i, some speed, some addr, some enable =>
    if s.arg 2 ≠ 0 ∧ s.arg 3 ≠ 0 ∧ s.arg 4 ≠ 0 ∧ s.arg 6 ≠ 0 ∧ (s.arg 6).toNat ≤ 8 then
      some (i, ⟨speed, (s.arg 2).toNat, (s.arg 3).toNat, (s.arg 4).toNat, (s.arg 5).toNat,
        (s.arg 6).toNat, addr, enable⟩)
    else none
  | _, _, _, _ => none

/-- R149 check 1: MODE and the arguments it makes present. -/
def surveyModeArg? (s : State) : Option SurveyMode :=
  if s.arg 9 = 0 then some .none
  else if s.arg 9 = 1 then some (.change (s.argMask 10))
  else if s.arg 9 = 2 then
    if (s.argMask 26).toNat < (s.argMask 18).toNat then none
    else some (.window (s.argMask 18) (s.argMask 26))
  else none

/-- R149 check 1: the arguments of SURVEY_SET. -/
def surveySetArgs? (s : State) : Option (SvId × SurveyConf) :=
  match s.argSv?, indexOf? 64 (s.arg 1).toNat, boolOf? (s.arg 2), boolOf? (s.arg 35),
    surveyModeArg? s with
  | some n, some lt, some present, some first, some mode =>
    if s.arg 4 ≠ 0 ∧ (s.arg 4).toNat ≤ 8 ∧ s.argWord 5 ≠ 0 ∧ s.arg 34 ≠ 0 ∧
        (s.arg 34).toNat ≤ 15 then
      some (n, ⟨lt, if present then some (s.arg 3) else none, (s.arg 4).toNat, s.argWord 5,
        s.argWord 7, mode, (s.arg 34).toNat, first⟩)
    else none
  | _, _, _, _, _ => none

/-! ### Copies into the argument area (R182) -/

/-- Write bytes over the argument area from offset `k` on. -/
def writeArgs (a : Vector Byte 60) : Nat → List Byte → Vector Byte 60
  | _, [] => a
  | k, b :: bs => writeArgs (if h : k < 60 then put a ⟨k, h⟩ b else a) (k + 1) bs

/-- TABLE 76: what MAP_READ copies to offsets 1 to 7; absent binding fields read 0 (R1). -/
def mapReadCopy (e : MapEntry) : List Byte :=
  (match e.binding with
    | none => [0, 0, 0, 0, 0]
    | some b => [b.state.code, byteOf b.segment.val, b.address.setWidth 8, byteOf b.threshold,
        boolByte b.autoReinstate]) ++
  [byteOf e.failCount, byteOf e.refCount]

/-- TABLE 76: what GROUP_READ copies to offsets 1 to 10; an absent QUORUM reads 0 (R22). -/
def groupReadCopy (g : Group) : List Byte :=
  mask64Bytes g.members ++
    [g.policy.code, match g.policy with
      | .quorum n => byteOf n
      | _ => 0]

/-- MODE code with MASK, LOW and HIGH as SURVEY_READ copies them; absent ones read 0 (R147). -/
def surveyModeCopy (m : SurveyMode) : List Byte :=
  match m with
  | .none => 0 :: (mask64Bytes 0 ++ mask64Bytes 0 ++ mask64Bytes 0)
  | .change k => 1 :: (mask64Bytes k ++ mask64Bytes 0 ++ mask64Bytes 0)
  | .window lo hi => 2 :: (mask64Bytes 0 ++ mask64Bytes lo ++ mask64Bytes hi)

/-- The configuration part of a SURVEY_READ copy, offsets 1 to 35. -/
def surveyConfCopy (c : SurveyConf) : List Byte :=
  [byteOf c.lt.val, boolByte c.selector.isSome, c.selector.getD 0, byteOf c.length] ++
    word16Bytes c.period ++ word16Bytes c.startOffset ++ surveyModeCopy c.mode ++
    [byteOf c.failThreshold, boolByte c.notifyFirst]

/-- DUE_TIME and EXIT_TO as SURVEY_READ copies them; absent ones read 0. -/
def surveyRunCopy (r : SurveyRun) : List Byte :=
  r.code :: (match r with
    | .waiting d => word16Bytes d.time ++ [0]
    | .due d => word16Bytes d.time ++ [0]
    | .reading d x => word16Bytes d.time ++ [x.code]
    | _ => [0, 0, 0])

/-- TABLE 76: what SURVEY_READ copies to offsets 1 to 42 (R152). -/
def surveyReadCopy (e : SurveyEntry) : List Byte :=
  (match e.setup with
    | none => List.replicate 39 0
    | some u => surveyConfCopy u.conf ++ surveyRunCopy u.run) ++
  [byteOf e.consecFails, byteOf e.overruns, e.windowState.code]

end Sys2Proof.Machine
end

