-- ==== Sys2Proof/Machine/Arbiter.lean ====
section
/-! DEFINITION. The segment arbiter (R92 to R96), the transactions it grants (TABLE 33), the entry into
recovery (R120), and the start condition (R76). -/

namespace Sys2Proof.Machine

/-! ### Transaction shapes (TABLE 33) -/

/-- The write phase: address byte and written bytes. -/
def writePhase (a : BusAddr) (bytes : List Byte) : List BusItem :=
  .addressWrite a :: bytes.map .write

/-- R77, TABLE 33: `n` read bytes, each acknowledged by the engine except the last. -/
def readItems : Nat → List BusItem
  | 0 => []
  | n + 1 => List.replicate n (.read true) ++ [.read false]

/-- The read phase: address byte and `n` read bytes. -/
def readPhase (a : BusAddr) (n : Nat) : List BusItem := .addressRead a :: readItems n

/-- R80 to R84: the transaction of a host attempt. -/
def hostScript (a : BusAddr) (r : Request) : List BusItem :=
  match r.kind with
  | .write => writePhase a r.writeData
  | .read => readPhase a r.readLength
  | .writeRead => writePhase a r.writeData ++ readPhase a r.readLength
  | .probe => writePhase a []
  | .blockRead => writePhase a r.writeData ++ [.addressRead a, .count r.readLength]

/-- R85: the transaction of a survey read. -/
def surveyScript (a : BusAddr) (c : SurveyConf) : List BusItem :=
  match c.selector with
  | some b => writePhase a [b] ++ readPhase a c.length
  | none => readPhase a c.length

/-- R85, R169: the transaction of an alert query. -/
def alertScript (a : BusAddr) : List BusItem := readPhase a 1

/-! ### Grants -/

/-- No stop reason held. -/
def StopRequest.none : StopRequest := ⟨false, false, false⟩

/-- R76: the granted work is in WAIT_FREE; with BUS_FREE yes the start condition is made at once, which
makes BUS_FREE no. R120: a grant made with a line low, however short a time, waits for the bus to be free
and meets BUSY_LIMIT; that BUS_FREE is no while it waits is the model's choice (log 12). -/
def beginWork (i : SegId) (w : Work) (lt : Option LtId) (script : List BusItem) (s : State) : State :=
  let g := s.seg i
  if g.canStart then
    s.putSeg i { g with
      state := .busy ⟨w, lt, script, .transfer, StopRequest.none⟩, busFree := false
      dataLine := Line.fallen }
  else s.putSeg i { g with
    state := .busy ⟨w, lt, script, .waitFree, StopRequest.none⟩, busFree := false }

/-- R95: set CONSEC_HOST of segment `i`. -/
def putConsecHost (i : SegId) (n : Nat) (s : State) : State :=
  s.putSeg i { s.seg i with consecHost := n }

/-- R95: CONSEC_HOST after the grant of a host operation. -/
def consecAfterHost (g : Segment) : Nat :=
  if g.dueList.isEmpty then 0 else min (g.consecHost + 1) Config.consecHostCeiling

/-- R95: CONSEC_HOST after the grant of an alert query. -/
def consecAfterAlert (g : Segment) : Nat := if g.dueList.isEmpty then 0 else g.consecHost

/-- R96: a host operation is granted: the slot becomes ACTIVE, ATTEMPTS rises by one, ABORT_MARK is no,
and it leaves the pending list. -/
def grantHost (i : SegId) (k : SlotId) (s : State) : State :=
  match s.slot k with
  | some o =>
    match s.ctx o.context with
    | some x =>
      let s := putConsecHost i (consecAfterHost (s.seg i)) s
      let s := (leavePending i k s).putSlot k
        (some { o with state := .active false, attempts := o.attempts + 1 })
      beginWork i (.host k o.kind) (some o.lt) (hostScript o.address x.request) s
    | none => s
  | none => s

/-- R96, R154: a survey read is granted: the entry leaves the due list and becomes READING with EXIT_TO
WAITING, and the LT's REF_COUNT rises by one. -/
def grantSurvey (i : SegId) (n : SvId) (s : State) : State :=
  match (s.sv n).setup, s.svRun n with
  | some u, some (.due d) =>
    match (s.entry u.conf.lt).binding with
    | some b =>
      let s := putConsecHost i 0 (leaveDue n s)
      let s := addRef u.conf.lt (s.putSvRun n (.reading d .waiting))
      beginWork i (.survey n) (some u.conf.lt) (surveyScript b.address u.conf) s
    | none => s
  | _, _ => s

/-- R96, R169: an alert query is granted. -/
def grantAlert (i : SegId) (s : State) : State :=
  let g := s.seg i
  beginWork i .alert none (alertScript g.config.alertAddress) (putConsecHost i (consecAfterAlert g) s)

/-- R94 step 1: an alert query is called for. -/
def alertCalled (g : Segment) : Bool := g.config.alertEnable && !g.alert.suspended && g.alertLow

/-- What the arbiter can choose. -/
inductive Choice where
  | alert
  | survey (n : SvId)
  | host (k : SlotId)
  deriving DecidableEq, Repr

/-- R94 steps 3 and 4: the eligible operation, or else the due head. -/
def chooseHostFirst (i : SegId) (s : State) : Option Choice :=
  match eligible i s, (s.seg i).dueList.head? with
  | some k, _ => some (.host k)
  | none, some n => some (.survey n)
  | none, none => none

/-- R94: the arbiter's choice. -/
def choose (i : SegId) (s : State) : Option Choice :=
  let g := s.seg i
  if alertCalled g then some .alert
  else
    match g.dueList.head? with
    | some n => if g.config.surveyShare ≤ g.consecHost then some (.survey n) else chooseHostFirst i s
    | none => chooseHostFirst i s

/-- R120, R121: the segment enters RECOVERING with its cause and pulse count 0; BUS_FREE is no; lists,
CONSEC_HOST and alert state are kept. -/
def enterRecovering (i : SegId) (cause : EntryCause) (s : State) : State :=
  s.putSeg i { s.seg i with state := .recovering ⟨0, cause, none⟩, busFree := false }

/-- R93: the chosen work is granted. -/
def grant (i : SegId) (c : Choice) (s : State) : State :=
  match c with
  | .alert => grantAlert i s
  | .survey n => grantSurvey i n s
  | .host k => grantHost i k s

/-- R92, R93: a grant opportunity of segment `i`: in IDLE the stuck-line check comes first, then the
arbiter's choice; in any other state nothing. -/
def arbitrate (i : SegId) (s : State) : State :=
  if (s.segState i).isIdle then
    if stuckCheckFails (s.seg i) then enterRecovering i .check s
    else
      match choose i s with
      | some c => grant i c s
      | none => s
  else s

end Sys2Proof.Machine
end

