-- ==== Sys2Proof/Machine/Posting.lean ====
section
/-! DEFINITION. The posting list and the CQ (R134 to R140): building a completion record from a finished
item, posting it, and joining the list. -/

namespace Sys2Proof.Machine

/-- R137: the record of a FINISHED RQ entry. -/
def entryRecord (e : RqEntry) (f : RqFinish) : CompletionRecord where
  tag        := e.request.tag
  status     := f.status
  kind       := e.request.kind
  target     := e.request.target
  attempts   := 0
  finishTime := f.finishTime
  result     := none
  bytesAcked := if e.request.kind = .write ∨ e.request.kind = .writeRead then some 0 else none
  successSet := if e.request.isGroup then some 0 else none
  failSet    := if e.request.isGroup then some (f.failSet.getD 0) else none

/-- The members of a context with OUTCOME DONE. -/
def Context.doneMembers (x : Context) : List LtId :=
  (x.members.filter (·.outcome == some .done)).map (·.lt)

/-- The other members of a context. -/
def Context.failedMembers (x : Context) : List LtId :=
  (x.members.filter (·.outcome != some .done)).map (·.lt)

/-- R137: the record of a FINISHED context. -/
def contextRecord (x : Context) (f : CtxFinish) : CompletionRecord where
  tag        := x.request.tag
  status     := f.status
  kind       := x.request.kind
  target     := x.request.target
  attempts   := largest (x.members.map (·.attempts))
  finishTime := f.finishTime
  result     := x.result
  bytesAcked := f.bytesAcked
  successSet := if x.request.isGroup then some (maskOf x.doneMembers) else none
  failSet    := if x.request.isGroup then some (maskOf x.failedMembers) else none

/-- R135: a record joins the CQ tail with AGE 0. -/
def pushRecord (r : CompletionRecord) (s : State) : State :=
  { s with completion := { s.completion with cq := s.completion.cq ++ [⟨r, 0⟩] } }

/-- The FINISHED RQ entry that holds `tag`. -/
def finishedEntry? (s : State) (tag : Byte) : Option (RqEntry × RqFinish) :=
  s.rq.findSome? fun e => if e.request.tag = tag then e.finish.map fun f => (e, f) else none

/-- R135: one item is turned into its record and freed: an RQ entry leaves the RQ from its place, a
context is freed. -/
def postItem (it : PostItem) (s : State) : State :=
  match it with
  | .entry tag =>
    match finishedEntry? s tag with
    | some (e, f) =>
      setRq (s.rq.eraseP fun x => x.request.tag == tag && !x.queued) (pushRecord (entryRecord e f) s)
    | none => s
  | .context c =>
    match s.ctx c with
    | some x =>
      match x.finish with
      | some f => (pushRecord (contextRecord x f) s).putCtx c none
      | none => s
    | none => s

/-- R135: post the items of `l` from its head on while the CQ holds fewer than 32 records; what is left
stays the posting list. -/
def postFrom : List PostItem → State → State
  | [], s => { s with completion := { s.completion with posting := [] } }
  | it :: rest, s =>
    if s.completion.cq.length < Config.cqCapacity then postFrom rest (postItem it s)
    else { s with completion := { s.completion with posting := it :: rest } }

/-- R135: every posting the CQ has room for. -/
def postAll (s : State) : State := postFrom s.completion.posting s

/-- R134: a finished item joins the tail of the posting list and is posted at once when the CQ has
room. -/
def joinPosting (it : PostItem) (s : State) : State :=
  postAll { s with completion := { s.completion with posting := s.completion.posting ++ [it] } }

/-- R38: the QUEUED entry that holds `tag` becomes FINISHED in its place and joins the posting list. -/
def finishQueued (tag : Byte) (f : RqFinish) (s : State) : State :=
  joinPosting (.entry tag)
    { s with rq := s.rq.map fun e => if e.request.tag = tag ∧ e.queued then { e with finish := some f }
                                     else e }

/-- R68: a context whose OUTSTANDING has fallen to 0 becomes FINISHED and joins the posting list. -/
def finishContext (c : CtxId) (x : Context) (s : State) : State :=
  joinPosting (.context c)
    (s.putCtx c (some { x with finish := some ⟨contextStatus x, s.now, contextBytesAcked x⟩ }))

end Sys2Proof.Machine
end

