-- ==== Sys2Proof/Machine/Dispatcher.lean ====
section
/-! DEFINITION. The dispatcher (R43 to R51): its candidate, the resolution of targets, failure at
admission and admission. -/

namespace Sys2Proof.Machine

/-- R44: the candidate: the oldest QUEUED URGENT entry, else the oldest QUEUED NORMAL one; none while
PAUSED. -/
def candidate (s : State) : Option RqEntry :=
  if s.paused then none
  else
    match s.rq.find? fun e => e.queued && e.request.priority == .urgent with
    | some e => some e
    | none => s.rq.find? fun e => e.queued && e.request.priority == .normal

/-- Result of resolving one target (R47). -/
inductive Resolution where
  | live (seg : SegId) (addr : BusAddr)
  | failed (reason : Outcome)
  deriving DecidableEq, Repr

/-- TABLE 20, lines 3 to 5: the segment of a target its map entry lets through. -/
def resolveOnSegment (s : State) (b : Binding) : Resolution :=
  match s.segState b.segment with
  | .disabled => .failed .segmentDisabled
  | .faulted _ => .failed .segmentFaulted
  | _ => .live b.segment b.address

/-- TABLE 20: the resolution of one target. -/
def resolve (s : State) (kind : Kind) (lt : LtId) : Resolution :=
  match (s.entry lt).binding with
  | none => .failed .targetRetired
  | some b =>
    match b.state with
    | .draining => .failed .targetRetired
    | .isolated => if kind = .probe then resolveOnSegment s b else .failed .targetIsolated
    | .active => resolveOnSegment s b

/-- R48, R49: the targets a request names, as the group table stands, in member order. -/
def targetsOf (s : State) (r : Request) : List LtId :=
  match r.target with
  | .lt n => [n]
  | .group g => maskMembers (look s.groups g).members

/-- The targets with their resolutions. -/
def resolveAll (s : State) (r : Request) : List (LtId × Resolution) :=
  (targetsOf s r).map fun lt => (lt, resolve s r.kind lt)

/-- A live target, numbered with its place in the member list. -/
structure LiveTarget where
  member : Nat
  lt     : LtId
  seg    : SegId
  addr   : BusAddr
  deriving DecidableEq, Repr

/-- The live targets among resolutions whose first has member index `m`. -/
def liveFrom : Nat → List (LtId × Resolution) → List LiveTarget
  | _, [] => []
  | m, (lt, .live seg addr) :: rest => ⟨m, lt, seg, addr⟩ :: liveFrom (m + 1) rest
  | m, (_, .failed _) :: rest => liveFrom (m + 1) rest

/-- R54: the member entry of one resolved target. -/
def memberOf (r : LtId × Resolution) : Member :=
  match r.2 with
  | .live _ _ => ⟨r.1, none, 0, 0⟩
  | .failed o => ⟨r.1, some o, 0, 0⟩

/-- R48, R50: the STATUS of a request that fails at admission. -/
def admissionFailure (r : Request) (res : List (LtId × Resolution)) : Status :=
  if r.isGroup then .groupPolicyFailed
  else
    match res with
    | (_, .failed o) :: _ => .of o
    | _ => .groupPolicyFailed

/-- R50: the candidate fails at admission. -/
def failAtAdmission (e : RqEntry) (res : List (LtId × Resolution)) (s : State) : State :=
  finishQueued e.request.tag
    ⟨admissionFailure e.request res, s.now,
      if e.request.isGroup then some (maskOf (res.map (·.1))) else none⟩ s

/-- R51, R53: the free context with the lowest index. -/
def freeContext? (s : State) : Option CtxId := (List.finRange 16).find? fun c => (s.ctx c).isNone

/-- R51: the free slots, lowest index first. -/
def freeSlots (s : State) : List SlotId := (List.finRange 24).filter fun k => (s.slot k).isNone

/-- R51 steps 3 to 5, R57: one live target takes slot `k`, PENDING, its reference is counted, and the
slot is placed in its pending list by R61 and R62. -/
def placeSlot (c : CtxId) (r : Request) (t : LiveTarget) (k : SlotId) (s : State) : State :=
  let s := s.putSlot k (some ⟨.pending, c, t.member, t.lt, t.seg, t.addr, r.kind, r.priority, 0, 0⟩)
  let s := addRef t.lt s
  s.putSeg t.seg { s.seg t.seg with
    pendingList := placeIn s.slot k t.lt r.priority (s.seg t.seg).pendingList }

/-- R51 steps 3 to 5 over the live targets in member order and the free slots in index order. -/
def placeSlots (c : CtxId) (r : Request) : List LiveTarget → List SlotId → State → State
  | t :: ts, k :: ks, s => placeSlots c r ts ks (placeSlot c r t k s)
  | _, _, s => s

/-- R54: the context as admission fills it. -/
def newContext (s : State) (e : RqEntry) (res : List (LtId × Resolution)) : Context where
  request         := e.request
  acceptTime      := e.acceptTime
  deadlineTime    := e.deadlineTime
  outstanding     := (liveFrom 0 res).length
  members         := res.map memberOf
  result          := none
  cancelRequested := false
  policy          :=
    match e.request.target with
    | .lt _ => none
    | .group g => some (look s.groups g).policy
  deadlinePassed  := e.deadlineTime.map fun _ => false
  finish          := none

/-- R51 step 6: a grant opportunity for each segment that received a slot. -/
def offerSegments (l : List LiveTarget) (s : State) : State :=
  (List.finRange 4).foldl (fun t i => if l.any (·.seg == i) then arbitrate i t else t) s

/-- R51: the candidate is admitted into context `c`. -/
def admitCandidate (e : RqEntry) (c : CtxId) (res : List (LtId × Resolution)) (s : State) : State :=
  let live := liveFrom 0 res
  let slots := freeSlots s
  let x := newContext s e res
  let s := setRq (s.rq.eraseP fun y => y.request.tag == e.request.tag && y.queued) s
  let s := s.putCtx c (some x)
  offerSegments live (placeSlots c e.request live slots s)

/-- R46: one examination of the candidate: it fails, is admitted, or waits (nothing). -/
def examineOnce (s : State) : Option State :=
  match candidate s with
  | none => none
  | some e =>
    let res := resolveAll s e.request
    let live := liveFrom 0 res
    if live.isEmpty then some (failAtAdmission e res s)
    else
      match freeContext? s with
      | some c =>
        if live.length ≤ (freeSlots s).length then some (admitCandidate e c res s) else none
      | none => none

/-- R45: examine candidate after candidate, at most `n` of them. -/
def examineUpTo : Nat → State → State
  | 0, s => s
  | n + 1, s =>
    match examineOnce s with
    | none => s
    | some t => examineUpTo n t

/-- R45: the dispatcher examines its candidate, going on with each new one until it waits or no QUEUED
entry is left. Every round takes one QUEUED entry, so the RQ's length bounds the rounds. -/
def examine (s : State) : State := examineUpTo s.rq.length s

/-- R45, R72, R92: a grant opportunity whose change of the segment state, if any, is handed to the
dispatcher. -/
def opportunity (i : SegId) (s : State) : State :=
  let t := arbitrate i s
  if t.segState i = s.segState i then t else examine t

/-- R92: the grant opportunity of a change of segment `i`'s due list, from `before` to `after`; `s` is the
state it is taken in. -/
def opportunityIfJoined (i : SegId) (before after : State) (s : State) : State :=
  if (after.seg i).dueList = (before.seg i).dueList then s else opportunity i s

end Sys2Proof.Machine
end

