-- ==== Sys2Proof/Machine/Slots.lean ====
section
/-! DEFINITION. The end of an operation slot and the accounting of its context (R65 to R68), the update
of FAIL_COUNT (R10), isolation (R11) and reinstatement (R14, R15). -/

namespace Sys2Proof.Machine

/-! ### Slot end (R65) -/

/-- R56, R65 step 3: the member list with member `k` completed. -/
def completeMember (members : List Member) (k : Nat) (o : OpSlot) (outcome : Outcome) : List Member :=
  members.modify k fun m =>
    { m with outcome := some outcome, attempts := o.attempts, bytesAcked := o.lastAcked }

/-- R56: the read data a context takes at a slot end: that of a single-target READ, WRITE_READ or
BLOCK_READ that ends DONE. -/
def takesResult (r : Request) (outcome : Outcome) : Bool :=
  outcome == .done && !r.isGroup && (r.kind == .read || r.kind == .writeRead || r.kind == .blockRead)

/-- R65 steps 3 and 4: the context after one of its slots has ended. -/
def afterSlotEnd (x : Context) (o : OpSlot) (outcome : Outcome) (data : List Byte) : Context :=
  { x with
    members     := completeMember x.members o.member o outcome
    result      := if takesResult x.request outcome then some data else x.result
    outstanding := x.outstanding - 1 }

/-- R65 steps 3 and 4: the member entry is completed and OUTSTANDING falls by one; at 0 the context
finishes (R68). -/
def accountSlotEnd (o : OpSlot) (outcome : Outcome) (data : List Byte) (s : State) : State :=
  match s.ctx o.context with
  | some x =>
    let x' := afterSlotEnd x o outcome data
    if x'.outstanding = 0 then finishContext o.context x' s else s.putCtx o.context (some x')
  | none => s

/-- R65: the slot ends with a final outcome: it leaves its list and becomes FREE, its reference is
released, its context is accounted, the dispatcher examines its candidate, and a change of the pending
list is a grant opportunity (R59, R92). A FREE slot is not reached (R66). -/
def slotEnd (k : SlotId) (outcome : Outcome) (data : List Byte) (s : State) : State :=
  match s.slot k with
  | none => s
  | some o =>
    let listed := k ∈ (s.seg o.segment).pendingList
    let s := (leavePending o.segment k s).putSlot k none
    let s := releaseRef o.lt s
    let s := accountSlotEnd o outcome data s
    let s := examine s
    if listed then opportunity o.segment s else s

/-- R58: a PENDING or BACKOFF slot ends with `outcome`; an ACTIVE or FREE one is not reached. -/
def endWaiting (k : SlotId) (outcome : Outcome) (s : State) : State :=
  match s.slot k with
  | some o =>
    match o.state with
    | .active _ => s
    | _ => slotEnd k outcome [] s
  | none => s

/-- R67: several slots end one after another. -/
def endEach (outcome : Outcome) : List SlotId → State → State
  | [], s => s
  | k :: ks, s => endEach outcome ks (endWaiting k outcome s)

/-- The occupied slots of a context in member order (R67, R105, R116). -/
def slotsOf (c : CtxId) (s : State) : List SlotId :=
  match s.ctx c with
  | none => []
  | some x =>
    (List.range x.members.length).filterMap fun m =>
      (List.finRange 24).find? fun k =>
        match s.slot k with
        | some o => o.context == c && o.member == m
        | none => false

/-! ### Isolation and reinstatement -/

/-- R11 step 2, R111: the listed operations of `lt` that are not PROBEs, in list order. -/
def isolationEnds (lt : LtId) (i : SegId) (s : State) : List SlotId :=
  (s.seg i).pendingList.filter fun k =>
    match s.slot k with
    | some o => o.lt == lt && o.kind != .probe
    | none => false

/-- R12: the survey entries naming `lt` are held. -/
def holdTarget (lt : LtId) : State → State :=
  forSurvey fun n s => if s.svLt n = some lt then holdEntry n s else s

/-- R11: the entry becomes ISOLATED, its waiting non-PROBE operations end, its survey entries are held,
TARGET_ISOLATED is posted, and the dispatcher examines its candidate. -/
def isolate (lt : LtId) (s : State) : State :=
  match (s.entry lt).binding with
  | none => s
  | some b =>
    let s := s.putEntry lt { s.entry lt with binding := some { b with state := .isolated } }
    let s := endEach .targetIsolated (isolationEnds lt b.segment s) s
    let s := holdTarget lt s
    examine (postNotice (.targetIsolated lt b.segment b.address (s.entry lt).failCount) s)

/-- R14, R15: an ISOLATED entry becomes ACTIVE with FAIL_COUNT 0 and its HELD survey entries are
released. -/
def reinstate (lt : LtId) (b : Binding) (s : State) : State :=
  releaseTarget lt
    (s.putEntry lt
      { s.entry lt with binding := some { b with state := .active }, failCount := 0 })

/-- R10, R88 step 1: FAIL_COUNT is updated by the outcome of a transaction to `lt`. -/
def countOutcome (lt : LtId) (r : AttemptResult) (s : State) : State :=
  let e := s.entry lt
  if e.binding.isSome then s.putEntry lt { e with failCount := failCountAfter r e.failCount } else s

/-- R11: the outcome raises FAIL_COUNT of an ACTIVE entry to its threshold, which is not 0; judged on
the state before the update. -/
def isolationDue (lt : LtId) (r : AttemptResult) (s : State) : Bool :=
  match (s.entry lt).binding with
  | some b =>
    b.state == .active && b.threshold != 0 && r.outcome.targetFailure &&
      decide ((s.entry lt).failCount < Config.failCeiling) && (s.entry lt).failCount + 1 == b.threshold
  | none => false

/-- R15: a PROBE that ends DONE on an ISOLATED entry with AUTO_REINSTATE yes reinstates it and posts
TARGET_REINSTATED; the dispatcher examines its candidate (R45). -/
def probeReinstates (lt : LtId) (kind : Kind) (r : AttemptResult) (s : State) : State :=
  match (s.entry lt).binding with
  | some b =>
    if kind = .probe ∧ r.outcome = .done ∧ b.state = .isolated ∧ b.autoReinstate then
      examine (postNotice (.targetReinstated lt b.segment b.address) (reinstate lt b s))
    else s
  | none => s

end Sys2Proof.Machine
end

