-- ==== Sys2Proof/Machine/Transaction.lean ====
section
/-! DEFINITION. What the bytes of a transaction make of it (R77 to R86), and the end of a transaction
(R88) with its owners: the host slot (R99 to R106, R117), the survey read (R156 to R161), the alert
query (R169 to R171), the completion of a disable (R128). -/

namespace Sys2Proof.Machine

/-! ### The bytes of a transaction -/

/-- What has been gathered so far of a transaction. -/
structure Progress where
  bytesAcked : Nat
  addrAcked  : Bool
  data       : List Byte
  deriving DecidableEq, Repr

/-- Where a transaction under way stands: in a write phase (or before its first byte), after an
acknowledged address byte with read direction, or after a read byte the engine acknowledged. -/
inductive Standing where
  | write
  | readAddress
  | read
  deriving DecidableEq, Repr

/-- What a run of bytes makes of a transaction: it has ended by its own shape or outcome with the last
byte given; it is under way with the items `rest` to come; its last byte is a read byte that the engine
did not acknowledge though the shape called for it, which is how a read phase is stopped (R89); or the
bytes do not fit. -/
inductive Verdict where
  | ended (r : AttemptResult)
  | running (p : Progress) (rest : List BusItem) (standing : Standing)
  | cut (p : Progress)
  | misfit
  deriving DecidableEq, Repr

/-- The result with an outcome other than DONE: bytes read are dropped (R86). -/
def Progress.failed (p : Progress) (o : Outcome) : AttemptResult := ⟨o, p.bytesAcked, p.addrAcked, []⟩

/-- The result of a completed shape. -/
def Progress.done (p : Progress) : AttemptResult := ⟨.done, p.bytesAcked, p.addrAcked, p.data⟩

/-- End a run with `v`, if it stands at its last byte. -/
def endAt (v : Verdict) (left : List BusByte) : Verdict := if left.isEmpty then v else .misfit

/-- R84: a count byte that BLOCK_READ accepts. -/
def countOk (limit : Nat) (v : Byte) : Bool := decide (1 ≤ v.toNat) && decide (v.toNat ≤ limit)

/-- R77, R79, R80 to R85: carry a transaction's items over the bytes seen. The acknowledge bit of a byte
read is the engine's own: low for a byte the shape goes on after and for a count byte in range, high for
the last byte and for a count byte out of range; high elsewhere is a stop (R89). -/
def runBytes : List BusItem → List BusByte → Progress → Standing → Verdict
  | [], left, p, _ => endAt (.ended p.done) left
  | items, [], p, w => .running p items w
  | .addressWrite _ :: items, b :: bs, p, _ =>
    match b with
    | .acked => runBytes items bs { p with addrAcked := true } .write
    | .nacked => endAt (.ended (p.failed .addressNack)) bs
    | .lost => endAt (.ended (p.failed .arbitrationLost)) bs
    | .read _ _ => .misfit
  | .addressRead _ :: items, b :: bs, p, _ =>
    match b with
    | .acked => runBytes items bs { p with addrAcked := true } .readAddress
    | .nacked => endAt (.ended (p.failed .addressNack)) bs
    | .lost => endAt (.ended (p.failed .arbitrationLost)) bs
    | .read _ _ => .misfit
  | .write _ :: items, b :: bs, p, _ =>
    match b with
    | .acked => runBytes items bs { p with bytesAcked := p.bytesAcked + 1 } .write
    | .nacked => endAt (.ended (p.failed .dataNack)) bs
    | .lost => endAt (.ended (p.failed .arbitrationLost)) bs
    | .read _ _ => .misfit
  | .read ack :: items, b :: bs, p, _ =>
    match b with
    | .read v acked =>
      let p := { p with data := p.data ++ [v] }
      if acked = ack then runBytes items bs p .read
      else if ack then endAt (.cut p) bs
      else .misfit
    | _ => .misfit
  | .count limit :: _, b :: bs, p, _ =>
    match b with
    | .read v acked =>
      if countOk limit v then
        if acked then runBytes (readItems v.toNat) bs p .read else endAt (.cut p) bs
      else if acked then .misfit
      else endAt (.ended (p.failed .blockLengthError)) bs
    | _ => .misfit

/-- The verdict on a whole transaction's bytes so far. -/
def verdict (script : List BusItem) (bytes : List BusByte) : Verdict :=
  runBytes script bytes ⟨0, false, []⟩ .write

/-- R89: a transaction ended with nothing driven. -/
def nothingDriven (o : Outcome) : AttemptResult := ⟨o, 0, false, []⟩

/-! ### A host attempt's end (R99 to R106, R117) -/

/-- R101: the retry decision: a retryable outcome, ATTEMPTS at most RETRY_BUDGET, and the deadline absent
or not passed. -/
def retries (o : OpSlot) (x : Context) (outcome : Outcome) : Bool :=
  outcome.retryable && decide (o.attempts ≤ x.request.retryBudget) && x.deadlinePassed != some true

/-- R102: BACKOFF from `tick` over `gap` ticks; with RETRY_GAP 0 it has expired within the event. -/
def backoffState (tick : Word16) (gap : Nat) : SlotState :=
  if gap = 0 then .pending else .backoff tick (tick + BitVec.ofNat 16 gap)

/-- R63, R102: the slot enters BACKOFF at the head of its pending list. -/
def enterBackoff (k : SlotId) (o : OpSlot) (s : State) : State :=
  let g := s.seg o.segment
  (s.putSlot k (some { o with state := backoffState s.timebase.tick g.config.retryGap })).putSeg
    o.segment { g with pendingList := k :: g.pendingList }

/-- R90: what an attempt stopped at a boundary ends its slot with. -/
def stoppedOutcome (stop : StopRequest) : Outcome :=
  if stop.cancel then .aborted else .segmentDisabled

/-- TABLE 39, R117: the slot at the end of its attempt. -/
def settleHost (k : SlotId) (stop : StopRequest) (r : AttemptResult) (s : State) : State :=
  match s.slot k with
  | none => s
  | some o =>
    let o := { o with lastAcked := r.bytesAcked }
    let s := s.putSlot k (some o)
    match s.ctx o.context with
    | none => s
    | some x =>
      if r.outcome = .aborted then slotEnd k (stoppedOutcome stop) [] s
      else if retries o x r.outcome then
        if x.cancelRequested then endWaiting k .cancelled (enterBackoff k o s)
        else enterBackoff k o s
      else slotEnd k r.outcome r.data s

/-! ### A survey read's end (R156 to R161) -/

/-- The low `length` bytes of a 64-bit number. -/
def lowBytes (length : Nat) (v : Mask64) : Mask64 := BitVec.ofNat 64 (v.toNat % 256 ^ length)

/-- R157: GENERATION after a store: from 65535 to 1. -/
def nextGeneration (g : Word16) : Word16 := if g = 65535 then 1 else g + 1

/-- R157: whether a value read is stored. -/
def stores (m : MirrorSlot) (length : Nat) (v : Mask64) : Bool :=
  m.generation == 0 || lowBytes length v != lowBytes length m.value

/-- R157: the mirror slot after a DONE read. -/
def slotAfterDone (m : MirrorSlot) (length : Nat) (v : Mask64) (now : Word16) : MirrorSlot :=
  if stores m length v then ⟨nextGeneration m.generation, .valid, length, v, now⟩
  else { m with status := .valid, lastReadTime := now }

/-- R158: a store of a CHANGE entry is reported. -/
def changeReported (m : MirrorSlot) (c : SurveyConf) (mask v : Mask64) : Bool :=
  stores m c.length v &&
    (if m.generation = 0 then c.notifyFirst
     else lowBytes c.length ((v ^^^ m.value) &&& mask) != 0)

/-- R159: a value judged against LOW and HIGH. -/
def judgeWindow (low high v : Mask64) : WindowState :=
  if v.toNat < low.toNat then .below else if high.toNat < v.toNat then .above else .inside

/-- R158, R159: the notice of a DONE read, by MODE, after the store. -/
def noticeOfDone (n : SvId) (c : SurveyConf) (m : MirrorSlot) (w : WindowState) (v : Mask64)
    (s : State) : State :=
  let new := s.mirrorSlot n
  match c.mode with
  | .none => s
  | .change mask =>
    if changeReported m c mask v then postNotice (.surveyChange n new.generation new.value) s else s
  | .window low high =>
    let j := judgeWindow low high v
    let s := s.putSv n { s.sv n with windowState := j }
    if j = w ∨ (w = .unknown ∧ j = .inside) then s
    else postNotice (.surveyWindow n j w new.generation new.value) s

/-- R157 to R160: a survey read that ends DONE. -/
def surveyDone (n : SvId) (c : SurveyConf) (data : List Byte) (s : State) : State :=
  let m := s.mirrorSlot n
  let w := (s.sv n).windowState
  let v := lowBytes c.length (BitVec.ofNat 64 (leNat data))
  let s := s.putMirror n (slotAfterDone m c.length v s.now)
  let s := s.putSv n { s.sv n with consecFails := 0 }
  let new := s.mirrorSlot n
  let s := if m.status = .stale then postNotice (.surveyRecovered n new.generation new.value) s else s
  noticeOfDone n c m w v s

/-- R160: a failed survey read. -/
def surveyFailed (n : SvId) (c : SurveyConf) (o : Outcome) (s : State) : State :=
  let old := (s.sv n).consecFails
  let fails := min (old + 1) Config.failCeiling
  let s := s.putSv n { s.sv n with consecFails := fails }
  if old < fails ∧ fails = c.failThreshold then
    postNotice (.surveyFailed n c.lt o fails)
      (s.putMirror n { s.mirrorSlot n with status := .stale })
  else s

/-- R161: the next due time after a read that leaves the entry running: an overrun makes it due now. -/
def surveyNextDue (n : SvId) (i : SegId) (c : SurveyConf) (d : DueTime) (s : State) : State :=
  if c.period.toNat ≤ elapsed d.time s.now then
    let s := s.putSv n { s.sv n with overruns := min ((s.sv n).overruns + 1) Config.byteCeiling }
    setDueTime n i s.now 0 s
  else setDueTime n i d.time c.period s

/-- R156 steps 1 to 4: the survey engine takes the outcome of the read of entry `n` on segment `i`. -/
def takeSurveyRead (i : SegId) (n : SvId) (r : AttemptResult) (s : State) : State :=
  match (s.sv n).setup with
  | some ⟨c, .reading d exitTo⟩ =>
    if r.outcome = .aborted then s
    else if exitTo = .orphaned then s.putSvRun n .orphaned
    else
      let s := if r.outcome = .done then surveyDone n c r.data s else surveyFailed n c r.outcome s
      if exitTo = .stopped then s.putSvRun n .stopped else surveyNextDue n i c d s
  | _ => s

/-! ### An alert query's end (R169 to R171) -/

/-- Set the alert collector of segment `i`. -/
def putAlert (i : SegId) (a : AlertState) (s : State) : State :=
  s.putSeg i { s.seg i with alert := a }

/-- R170: the map entry that is not FREE and holds this segment and bus address. -/
def reverseLookup (s : State) (i : SegId) (a : BusAddr) : Option (LtId × Bound) :=
  (List.finRange 64).findSome? fun lt =>
    match (s.entry lt).binding with
    | some b => if b.segment = i ∧ b.address = a then some (lt, b.state) else none
    | none => none

/-- R171: collection is suspended and ALERT_STUCK is posted. -/
def suspendAlert (i : SegId) (cause : StuckCause) (a : BusAddr) (s : State) : State :=
  postNotice (.alertStuck i cause a) (putAlert i { (s.seg i).alert with suspended := true } s)

/-- R170: ALERT or STRAY_ALERT for the response byte. -/
def alertNotice (s : State) (i : SegId) (response : Byte) : NoticeBody :=
  let a : BusAddr := BitVec.ofNat 7 (response.toNat / 2)
  match reverseLookup s i a with
  | some (lt, st) => .alert lt i a st
  | none => .strayAlert i a response

/-- R171: the collector after a DONE query with address `a`. -/
def alertAfterDone (x : AlertState) (a : BusAddr) : AlertState :=
  if x.lastAddress = some a then
    { x with repeatCount := min (x.repeatCount + 1) Config.alertRepeatLimit, nackCount := 0 }
  else { x with lastAddress := some a, repeatCount := 1, nackCount := 0 }

/-- R170, R171: a query that ends DONE. -/
def alertDone (i : SegId) (response : Byte) (s : State) : State :=
  let a : BusAddr := BitVec.ofNat 7 (response.toNat / 2)
  let s := postNotice (alertNotice s i response) s
  let x := alertAfterDone (s.seg i).alert a
  let s := putAlert i x s
  if x.repeatCount = Config.alertRepeatLimit then suspendAlert i .repeated a s else s

/-- TABLE 66: the collector after a query that ends without a response. -/
def alertAfterMiss (x : AlertState) (o : Outcome) : AlertState :=
  let x := { x with nackCount := min (x.nackCount + 1) Config.alertNackLimit }
  if o = .addressNack then { x with lastAddress := none, repeatCount := 0 } else x

/-- R171: a query that ends without a response. -/
def alertMissed (i : SegId) (o : Outcome) (s : State) : State :=
  let x := alertAfterMiss (s.seg i).alert o
  let s := putAlert i x s
  if x.nackCount = Config.alertNackLimit then suspendAlert i .noAck 0 s else s

/-- TABLE 66: the collector takes the outcome of a query. -/
def takeAlert (i : SegId) (r : AttemptResult) (s : State) : State :=
  if r.outcome = .done then alertDone i (r.data.headD 0) s
  else if r.outcome = .aborted then s
  else alertMissed i r.outcome s

/-! ### Disable completion (R128) -/

/-- R128 step 3: one survey entry of a segment that becomes DISABLED. -/
def disableEntry (n : SvId) (s : State) : State :=
  match s.svRun n with
  | some (.reading _ .orphaned) => s.putSvRun n .orphaned
  | some (.reading _ _) => s.putSvRun n .held
  | _ => holdEntry n s

/-- R128: the completion of a disable of segment `i`. -/
def completeDisable (i : SegId) (s : State) : State :=
  let s := s.putSeg i { s.seg i with state := .disabled, consecHost := 0, busFree := false }
  let s := endEach .segmentDisabled (s.seg i).pendingList s
  let s := forSurvey (fun n s => if s.svSeg n = some i then disableEntry n s else s) s
  examine (putAlert i AlertState.cleared s)

/-! ### The end of a transaction (R88) -/

/-- R88 step 1: the target map takes the outcome: FAIL_COUNT (R10), and reinstatement by a PROBE (R15). -/
def mapTakes (c : Current) (r : AttemptResult) (s : State) : State :=
  match c.lt with
  | none => s
  | some lt =>
    let s := countOutcome lt r s
    match c.work with
    | .host _ kind => probeReinstates lt kind r s
    | _ => s

/-- R88 step 2, R130: the owner of the work takes the outcome; after an engine reset no owner does, and
the reference the transaction kept is released. -/
def ownerTakes (i : SegId) (c : Current) (r : AttemptResult) (s : State) : State :=
  if c.stop.reset then
    match c.lt with
    | some lt => examine (releaseRef lt s)
    | none => s
  else
    match c.work with
    | .host k _ => settleHost k c.stop r s
    | .survey n =>
      let s := takeSurveyRead i n r s
      match c.lt with
      | some lt => examine (releaseRef lt s)
      | none => s
    | .alert => takeAlert i r s

/-- R88 step 3: isolation, if step 1 raised FAIL_COUNT to the threshold. -/
def isolateIf (due : Bool) (c : Current) (s : State) : State :=
  match c.lt with
  | some lt => if due then isolate lt s else s
  | none => s

/-- R88 step 4: CURRENT becomes absent; a held DISABLE completes (R127), a line found low after a
STRETCH_TIMEOUT leads to RECOVERING (R120), and otherwise the segment is IDLE. -/
def afterTransaction (i : SegId) (c : Current) (r : AttemptResult) (s : State) : State :=
  if c.stop.disable then completeDisable i s
  else if r.outcome = .stretchTimeout ∧
      ¬ ((s.seg i).clockLine.high ∧ (s.seg i).dataLine.high) then
    examine (enterRecovering i .stretch s)
  else examine (s.putSegState i .idle)

/-- R88: the end of the transaction `c` of segment `i` with result `r`, steps 1 to 5. The lines are as
the segment holds them. -/
def endTransaction (i : SegId) (c : Current) (r : AttemptResult) (s : State) : State :=
  let due := match c.lt with
    | some lt => isolationDue lt r s
    | none => false
  let s := mapTakes c r s
  let s := ownerTakes i c r s
  let s := isolateIf due c s
  let s := afterTransaction i c r s
  opportunity i s

end Sys2Proof.Machine
end

