-- ==== Sys2Proof/Machine/Resets.lean ====
section
/-! DEFINITION. Device reset (R185 and the reset rules of each chapter) and engine reset (R186, R18, R42,
R70, R98, R130, R146, R166, R167, R176). -/

namespace Sys2Proof.Machine

/-! ### Device reset -/

/-- R97, R119: a segment at device reset: its reset values, with the input pins as they stand and both
line times at 0. -/
def Segment.deviceReset (g : Segment) : Segment :=
  { Segment.reset with
    clockLine := ⟨g.clockLine.high, 0⟩, dataLine := ⟨g.dataLine.high, 0⟩, alertLow := g.alertLow }

/-- R185: every block returns to its device reset values; the input pins and the queue of commands are
not the part's to reset. -/
def deviceReset (s : State) : State :=
  { State.reset with
    pending := s.pending
    port    := { HostPort.reset with csN := s.port.csN, resetN := s.port.resetN }
    segs    := s.segs.map Segment.deviceReset }

/-! ### Engine reset -/

/-- R42, R70, R146, R43: RQ, contexts, slots, posting list and CQ are emptied, the dispatcher is RUNNING,
and a fall of the RQ count from 32 latches RQ_SPACE. -/
def emptyQueues (s : State) : State :=
  let s := setRq [] s
  { s with
    paused     := false
    contexts   := Vector.replicate 16 none
    slots      := Vector.replicate 24 none
    completion := { s.completion with posting := [], cq := [] } }

/-- R176: the NQ is emptied and DROPPED is 0. -/
def emptyNotices (s : State) : State := { s with notices := NoticeUnit.reset }

/-- R166: one survey entry at engine reset, before the map side is taken. -/
def resetSurveyEntry (n : SvId) (s : State) : State :=
  match (s.sv n).setup with
  | some ⟨c, .due _⟩ => s.putSvRun n (.waiting ⟨s.now + c.period, s.now⟩)
  | some ⟨_, .reading _ .orphaned⟩ => s.putSvRun n .orphaned
  | some ⟨c, .reading _ _⟩ => s.putSvRun n (.waiting ⟨s.now + c.period, s.now⟩)
  | _ => s

/-- R98, R166, R167: lists emptied, CONSEC_HOST 0, alert collector cleared, in every segment. -/
def emptySegment (g : Segment) : Segment :=
  { g with pendingList := [], dueList := [], consecHost := 0, alert := AlertState.cleared }

/-- R130 steps 1 and 3: the map takes the outcome of a transaction whose owner the reset has removed,
and isolation follows if due. -/
def endWithoutOwner (c : Current) (r : AttemptResult) (s : State) : State :=
  let due := match c.lt with
    | some lt => isolationDue lt r s
    | none => false
  isolateIf due c (mapTakes c r s)

/-- R98: where a segment goes whose transaction ends at the reset itself: DISABLED when DISABLE is held
(R129, R128), RECOVERING when the line check finds a line low (R78), otherwise IDLE. -/
def afterResetEnd (i : SegId) (c : Current) (r : AttemptResult) (s : State) : State :=
  if c.stop.disable then completeDisable i s
  else if r.outcome = .stretchTimeout ∧
      ¬ ((s.seg i).clockLine.high ∧ (s.seg i).dataLine.high) then enterRecovering i .stretch s
  else s.putSeg i { s.seg i with state := .idle, busFree := false }

/-- R98: engine reset acts on one engine according to its state, the lists being empty already. -/
def resetEngine (i : SegId) (s : State) : State :=
  match s.segState i with
  | .disabled => s
  | .faulted _ => s
  | .idle => s.putSeg i { s.seg i with busFree := false }
  | .recovering _ => s.putSeg i { s.seg i with state := .idle, busFree := false }
  | .busy c =>
    match c.phase with
    | .waitFree =>
      let r := nothingDriven .aborted
      afterResetEnd i c r (endWithoutOwner c r s)
    | .stopping r => afterResetEnd i c r (endWithoutOwner c r s)
    | .transfer =>
      s.putSeg i { s.seg i with
        state := .busy { c with stop := { c.stop with reset := true } }, busFree := false }

/-- Fold an operation over the four segments. -/
def forSegs (f : SegId → State → State) (s : State) : State :=
  (List.finRange 4).foldl (fun t i => f i t) s

/-- R18: the entry is named by a transaction the reset has left in progress. -/
def leftInProgress (s : State) (lt : LtId) : Bool :=
  (List.finRange 4).any fun i =>
    match s.segState i with
    | .busy c => c.lt == some lt
    | _ => false

/-- R18: one map entry at engine reset. -/
def resetMapEntry (lt : LtId) (s : State) : State :=
  let e := s.entry lt
  if leftInProgress s lt then s.putEntry lt { e with refCount := 1 }
  else
    let s := s.putEntry lt { e with refCount := 0 }
    match e.binding with
    | some b => if b.state = .draining then completeRetirement lt b false s else s
    | none => s

/-- R18: the map at engine reset. -/
def resetMap (s : State) : State := (List.finRange 64).foldl (fun t lt => resetMapEntry lt t) s

/-- R92: engine reset is a grant opportunity for a segment that it makes IDLE, or whose pending list it
has taken slots from while IDLE. -/
def resetOpportunity (old : State) (i : SegId) (s : State) : State :=
  if (s.segState i).isIdle ∧
      (¬ (old.segState i).isIdle ∨ (old.seg i).pendingList ≠ []) then arbitrate i s
  else s

/-- R166, R162: release the HELD entries of a segment that engine reset has taken from RECOVERING to
IDLE. -/
def resetRelease (old : State) (i : SegId) (s : State) : State :=
  match old.segState i with
  | .recovering _ => releaseSegment i s
  | _ => s

/-- R186: engine reset. Queues and work in flight are emptied, configuration is kept; the survey entries
are set, each engine acts by its state, the map follows, held entries are released, and the segments
left IDLE look for work. The NQ is emptied after the transactions that end within the reset, so that it is
empty when the reset is over and NQ_READY is 0 (R183, R186, log 14). -/
def engineReset (old : State) : State :=
  let s := emptyQueues old
  let s := forSurvey resetSurveyEntry s
  let s := { s with segs := s.segs.map emptySegment }
  let s := forSegs resetEngine s
  let s := emptyNotices (resetMap s)
  let s := forSegs (resetRelease old) s
  forSegs (resetOpportunity old) s

end Sys2Proof.Machine
end

