-- ==== Sys2Proof/WellFormed.lean ====
section
/-! DEFINITION. When a command's operands can belong to the event it stands for. Index operands are
bounded by their types; these are the checks a type does not make. -/

namespace Sys2Proof

/-- The window addresses of TIME (TABLE 71). -/
def isTimeAddr (a : WinAddr) : Bool := a.toNat == 0x004 || a.toNat == 0x005

/-- The window addresses of the completion window (TABLE 74). -/
def isCompletionAddr (a : WinAddr) : Bool := 0x080 ≤ a.toNat && a.toNat ≤ 0x0B9

/-- The window addresses of the notice window (TABLE 75). -/
def isNoticeAddr (a : WinAddr) : Bool := 0x0E0 ≤ a.toNat && a.toNat ≤ 0x0EC

/-- The window addresses of the mirror (TABLE 71). -/
def isMirrorAddr (a : WinAddr) : Bool := 0x200 ≤ a.toNat

/-- The longest transaction, a WRITE_READ: address, 32 written bytes, address, 32 read bytes
(R24, R25, TABLE 33). -/
def longestTransaction : Nat := 66

/-- A trace has no more bytes than the longest shape, and a stop request was made at one of them or after
the last. -/
def BusTrace.wellFormed (t : BusTrace) : Bool :=
  t.bytes.length ≤ longestTransaction && t.atStop ≤ t.bytes.length

/-- Well-formed commands: a frame header has at most its three bytes (R177); a capture names an address
of the region it captures (R138, R175, R178, R181); a trace is well formed. -/
def Instr.wellFormed : Instr → Bool
  | .frameStart header => header.length ≤ 3
  | .timeCapture a => isTimeAddr a
  | .cqHeadCapture a => isCompletionAddr a
  | .nqHeadCapture a => isNoticeAddr a
  | .mirrorSnapshot a => isMirrorAddr a
  | .stretchLimitExpiry _ t _ => t.wellFormed
  | .stopAtByteBoundary _ t => t.wellFormed
  | .transactionEnd _ t _ => t.wellFormed
  | .frameEnd _ => true
  | .windowWrite _ => true
  | .cqThresholdWrite _ => true
  | .coalesceTimeWrite _ => true
  | .enablesWrite _ => true
  | .softReset => true
  | .deviceReset => true
  | .resetRelease => true
  | .engineReset => true
  | .pause => true
  | .resume => true
  | .clearRqSpace => true
  | .clearHostMisuse => true
  | .submit => true
  | .cqPop => true
  | .nqPop => true
  | .mapSet => true
  | .mapRetire => true
  | .mapReinstate => true
  | .mapRead => true
  | .groupSet => true
  | .groupRead => true
  | .segmentConfig => true
  | .segmentEnable => true
  | .segmentDisable => true
  | .segmentClear => true
  | .alertResume => true
  | .surveySet => true
  | .surveyStart => true
  | .surveyStop => true
  | .surveyRead => true
  | .cancel => true
  | .unknownCommand => true
  | .tick _ _ _ _ => true
  | .backoffExpiry _ => true
  | .timeStep => true
  | .queuedDeadlineExpiry _ => true
  | .contextDeadlinePasses _ => true
  | .surveyFallsDue _ => true
  | .busStartSeen _ => true
  | .busFreeDetected _ => true
  | .busyLimitExpiry _ => true
  | .alertAsserted _ => true
  | .alertReleased _ => true
  | .recoverySucceeds _ _ => true
  | .recoveryFails _ _ => true

end Sys2Proof
end

