-- ==== Sys2Proof/Machine/Window.lean ====
section
/-! DEFINITION. The register window (R178, TABLE 70 to TABLE 77): the byte each address shows, live or
from a capture, and what a write to each address does when its byte completes. -/

namespace Sys2Proof.Machine

/-! ### Reads -/

/-- TARGET_IS_GROUP and TARGET as bytes. -/
def Target.bytes : Target → List Byte
  | .lt n => [0, byteOf n.val]
  | .group g => [1, byteOf g.val]

/-- TABLE 74: the 58 bytes of the completion window for a record; RESULT is padded with 0. -/
def recordBytes (r : CompletionRecord) : List Byte :=
  [r.tag, r.status.code, r.kind.code] ++ r.target.bytes ++ [byteOf r.attempts] ++
    word16Bytes r.finishTime ++
    [byteOf (r.result.getD []).length, byteOf (r.bytesAcked.getD 0)] ++
    mask64Bytes (r.successSet.getD 0) ++ mask64Bytes (r.failSet.getD 0) ++
    (r.result.getD [])

/-- R138: the completion window of a captured or live head; empty, every field is 0. -/
def completionByte (h : Option CompletionRecord) (k : Nat) : Byte :=
  match h with
  | some r => (recordBytes r).getD k 0
  | none => 0

/-- TABLE 72: notice KIND codes. -/
def NoticeBody.kindCode : NoticeBody → Byte
  | .alert _ _ _ _ => 0x01
  | .strayAlert _ _ _ => 0x02
  | .alertStuck _ _ _ => 0x03
  | .surveyChange _ _ _ => 0x04
  | .surveyWindow _ _ _ _ _ => 0x05
  | .surveyFailed _ _ _ _ => 0x06
  | .surveyRecovered _ _ _ => 0x07
  | .targetIsolated _ _ _ _ => 0x08
  | .targetReinstated _ _ _ => 0x09
  | .targetRetired _ _ _ => 0x0A
  | .segmentFault _ _ _ _ => 0x0B
  | .segmentRecovered _ _ _ => 0x0C

/-- TABLE 67: SUBJECT. -/
def NoticeBody.subject : NoticeBody → Byte
  | .alert lt _ _ _ => byteOf lt.val
  | .strayAlert i _ _ => byteOf i.val
  | .alertStuck i _ _ => byteOf i.val
  | .surveyChange n _ _ => byteOf n.val
  | .surveyWindow n _ _ _ _ => byteOf n.val
  | .surveyFailed n _ _ _ => byteOf n.val
  | .surveyRecovered n _ _ => byteOf n.val
  | .targetIsolated lt _ _ _ => byteOf lt.val
  | .targetReinstated lt _ _ => byteOf lt.val
  | .targetRetired lt _ _ => byteOf lt.val
  | .segmentFault i _ _ _ => byteOf i.val
  | .segmentRecovered i _ _ => byteOf i.val

/-- The first four bytes of a value. -/
def valueHead (v : Mask64) : List Byte := (List.range 4).map (byteAt v)

/-- DETAIL by kind (10_host_port_and_register_window.md, below TABLE 75). -/
def NoticeBody.detail : NoticeBody → List Byte
  | .alert _ i a st => [byteOf i.val, a.setWidth 8, st.code]
  | .strayAlert _ a resp => [a.setWidth 8, resp]
  | .alertStuck _ cause a => [cause.code, a.setWidth 8]
  | .surveyChange _ g v => word16Bytes g ++ valueHead v
  | .surveyWindow _ new old g v => [new.code, old.code] ++ word16Bytes g ++ valueHead v
  | .surveyFailed _ lt o f => [byteOf lt.val, o.code, byteOf f]
  | .surveyRecovered _ g v => word16Bytes g ++ valueHead v
  | .targetIsolated _ i a f => [byteOf i.val, a.setWidth 8, byteOf f]
  | .targetReinstated _ i a => [byteOf i.val, a.setWidth 8]
  | .targetRetired _ i a => [byteOf i.val, a.setWidth 8]
  | .segmentFault _ p h c => [byteOf p, h.code, c.code]
  | .segmentRecovered _ p c => [byteOf p, c.code]

/-- TABLE 75: the 13 bytes of the notice window for a notice. -/
def noticeBytes (n : Notice) : List Byte :=
  [n.body.kindCode, n.body.subject] ++ word16Bytes n.time ++ [byteOf n.droppedBefore] ++ n.body.detail

/-- R175: the notice window of a captured or live head; empty, every field is 0. -/
def noticeByte (h : Option Notice) (k : Nat) : Byte :=
  match h with
  | some n => (noticeBytes n).getD k 0
  | none => 0

/-- Mirror slot `n` as the window shows it (R164). -/
def mirrorView (s : State) (n : SvId) : MirrorView :=
  ⟨s.mirrorSlot n, (s.sv n).overruns, (s.sv n).consecFails⟩

/-- TABLE 77: the 16 bytes of a mirror slot. -/
def mirrorBytes (v : MirrorView) : List Byte :=
  word16Bytes v.slot.generation ++ [v.slot.status.code, byteOf v.slot.valueLength] ++
    mask64Bytes v.slot.value ++ word16Bytes v.slot.lastReadTime ++
    [byteOf v.overruns, byteOf v.consecFails]

/-- The CQ head record (R138). -/
def cqHead (s : State) : Option CompletionRecord := s.completion.cq.head?.map (·.record)

/-- The NQ head (R175). -/
def nqHead (s : State) : Option Notice := s.notices.nq.head?

/-- R53: the number of held contexts. -/
def contextCount (s : State) : Nat := (s.contexts.toList.filter (·.isSome)).length

/-- R57: the number of occupied slots. -/
def slotCount (s : State) : Nat := (s.slots.toList.filter (·.isSome)).length

/-- TABLE 71, ALERT_SUSPENDED: bit n is SUSPENDED of SEGn. -/
def alertSuspendedByte (s : State) : Byte :=
  (if (s.seg 0).alert.suspended then 1 else 0) ||| (if (s.seg 1).alert.suspended then 2 else 0) |||
    (if (s.seg 2).alert.suspended then 4 else 0) ||| (if (s.seg 3).alert.suspended then 8 else 0)

/-- The mirror slot a window address lies in. -/
def mirrorIndex (a : WinAddr) : SvId := ⟨(a.toNat - 0x200) / 16 % 32, Nat.mod_lt _ (by decide)⟩

/-- The counts region, 0x020 to 0x02A (TABLE 71). -/
def countsBytes (s : State) : List Byte :=
  [byteOf s.rq.length, byteOf (contextCount s), byteOf (slotCount s),
    byteOf s.completion.cq.length, byteOf s.notices.nq.length, byteOf s.notices.dropped,
    (s.segState 0).code, (s.segState 1).code, (s.segState 2).code, (s.segState 3).code,
    alertSuspendedByte s]

/-- R178, TABLE 71: the live byte at a window address; AB, ACT and unlisted bytes read 0. -/
def State.windowByte (s : State) (a : WinAddr) : Byte :=
  let n := a.toNat
  if n = 0x000 then Config.deviceId
  else if n = 0x001 then Config.revision
  else if n = 0x003 then boolByte s.paused
  else if n = 0x004 then (word16Bytes s.timebase.time).getD 0 0
  else if n = 0x005 then (word16Bytes s.timebase.time).getD 1 0
  else if n = 0x010 then causes s
  else if n = 0x011 then s.irq.enables
  else if n = 0x012 then byteOf s.completion.threshold
  else if n = 0x013 then byteOf s.completion.coalesce
  else if 0x020 ≤ n ∧ n ≤ 0x02A then (countsBytes s).getD (n - 0x020) 0
  else if 0x053 ≤ n ∧ n ≤ 0x07C then s.port.staging.toList.getD (n - 0x053) 0
  else if n = 0x07D then byteOf s.port.submitCount
  else if n = 0x07E then s.port.submitByte
  else if n = 0x07F then s.port.submitResult.code
  else if isCompletionAddr a then completionByte (cqHead s) (n - 0x080)
  else if isNoticeAddr a then noticeByte (nqHead s) (n - 0x0E0)
  else if n = 0x100 then s.port.commandCode
  else if 0x101 ≤ n ∧ n ≤ 0x13C then s.port.args.toList.getD (n - 0x101) 0
  else if n = 0x13D then s.port.commandResult.code
  else if isMirrorAddr a then (mirrorBytes (mirrorView s (mirrorIndex a))).getD (n % 16) 0
  else 0

/-- R138, R175, R178, R181: a read frame takes a capture at `a`: the first byte it reads of TIME, of the
completion window or of the notice window, and the byte at which it enters a mirror slot, which is the
slot's first byte or, where the frame starts within the slot, its own. -/
def HostPort.captureDue (p : HostPort) (a : WinAddr) : Bool :=
  if isTimeAddr a then p.timeCapture.isNone
  else if isCompletionAddr a then p.cqCapture.isNone
  else if isNoticeAddr a then p.nqCapture.isNone
  else if isMirrorAddr a then
    a.toNat % 16 == 0 || (look p.snapshots (mirrorIndex a)).isNone
  else false

/-- R178, R181: the byte at a window address as a read frame's captures hold it: from the frame's capture of
the region where it has taken one, live elsewhere. -/
def State.readByte (s : State) (a : WinAddr) : Byte :=
  let n := a.toNat
  if isTimeAddr a then
    match s.port.timeCapture with
    | some t => (word16Bytes t).getD (n - 0x004) 0
    | none => s.windowByte a
  else if isCompletionAddr a then
    match s.port.cqCapture with
    | some h => completionByte h (n - 0x080)
    | none => s.windowByte a
  else if isNoticeAddr a then
    match s.port.nqCapture with
    | some h => noticeByte h (n - 0x0E0)
    | none => s.windowByte a
  else if isMirrorAddr a then
    match look s.port.snapshots (mirrorIndex a) with
    | some v => (mirrorBytes v).getD (n % 16) 0
    | none => s.windowByte a
  else s.windowByte a

/-- R177: what the port drives on its output during the byte a frame is at: nothing without a frame, 0 in
the header and in a write frame, and in a read frame the byte at its address. Where a capture is due at that
byte it is taken afresh, so the live byte is driven: at the first byte of a mirror slot that the frame comes
back to after the wrap the slot's new bytes and not the old snapshot's (R181). A plain byte further on in a
read frame has no command, and `State.readByte` of its address is what is driven then (log 16). -/
def State.hostOutput (s : State) : Option Byte :=
  match s.port.frame with
  | .noFrame => none
  | .direction => some 0
  | .address _ _ => some 0
  | .data false _ _ => some 0
  | .data true a _ => some (if s.port.captureDue a then s.windowByte a else s.readByte a)

/-! ### Writes -/

/-- R179: mark an action; a mark already in the set is not added twice. -/
def markAction (a : Action) (s : State) : State :=
  if a ∈ s.port.marks then s else { s with port := { s.port with marks := s.port.marks ++ [a] } }

/-- Mark an action when a bit says so. -/
def markIf (b : Bool) (a : Action) (s : State) : State := if b then markAction a s else s

/-- R141: a write to CQ_THRESHOLD; 0 or a value above 32 is kept out and latches HOST_MISUSE. -/
def landThreshold (v : Byte) (s : State) : State :=
  if 1 ≤ v.toNat ∧ v.toNat ≤ 32 then
    { s with completion := { s.completion with threshold := v.toNat } }
  else latchMisuse s

/-- R141: a write to COALESCE_TIME. -/
def landCoalesce (v : Byte) (s : State) : State :=
  { s with completion := { s.completion with coalesce := v.toNat } }

/-- R183: a write to ENABLES. -/
def landEnables (v : Byte) (s : State) : State := { s with irq := { s.irq with enables := v } }

/-- R178, TABLE 70, TABLE 71: what a completed data byte of a write frame does at its address. -/
def landByte (a : WinAddr) (v : Byte) (s : State) : State :=
  let n := a.toNat
  if n = 0x002 then
    markIf (v.getLsbD 3) .resume (markIf (v.getLsbD 2) .pause
      (markIf (v.getLsbD 1) .engineReset (markIf (v.getLsbD 0) .softReset s)))
  else if n = 0x010 then
    markIf (v.getLsbD 3) .clearHostMisuse (markIf (v.getLsbD 2) .clearRqSpace s)
  else if n = 0x011 then landEnables v s
  else if n = 0x012 then landThreshold v s
  else if n = 0x013 then landCoalesce v s
  else if h : 0x053 ≤ n ∧ n ≤ 0x07C then
    { s with port := { s.port with staging := put s.port.staging ⟨n - 0x053, by omega⟩ v } }
  else if n = 0x07D then s
  else if n = 0x07E then
    markIf (v == Config.trigger) .submit { s with port := { s.port with submitByte := v } }
  else if n = 0x0DF then markIf (v == Config.trigger) .cqPop s
  else if n = 0x0FF then markIf (v == Config.trigger) .nqPop s
  else if n = 0x100 then { s with port := { s.port with commandCode := v } }
  else if h : 0x101 ≤ n ∧ n ≤ 0x13C then
    { s with port := { s.port with args := put s.port.args ⟨n - 0x101, by omega⟩ v } }
  else if n = 0x13F then markIf (v == Config.trigger) .execute s
  else latchMisuse s

end Sys2Proof.Machine
end

