-- ==== Sys2Proof/Machine/Frames.lean ====
section
/-! DEFINITION. Frames of the host port (R177 to R181): their beginning and end, the bytes that land, the
captures of a read frame; with them the rules every meaning shares: a command ends in the next state
with IRQ_N judged (R183), and an action is taken from the head of those a frame has handed out (R179). -/

namespace Sys2Proof.Machine

/-- Every command ends here: a next state, with IRQ_N judged afresh (R183). -/
def finish (s : State) : Host.Outcome State Fault Refusal := .next (judgeIrq s)

/-- R179: an action is taken when it is the first of those handed out and not yet taken; otherwise the
command's event is not at hand and nothing changes (log 2). -/
def takeAction (a : Action) (f : State → State) (s : State) : State :=
  match s.port.actions with
  | [] => s
  | x :: rest => if x = a then f { s with port := { s.port with actions := rest } } else s

/-- R182: a control command is taken when EXECUTE is, with its code in COMMAND_CODE. -/
def takeCommand (code : Byte → Bool) (f : State → State) (s : State) : State :=
  if code s.port.commandCode then takeAction .execute f s else s

/-- R182: the result of a control command. -/
def answer (r : CommandResult) (s : State) : State :=
  { s with port := { s.port with commandResult := r } }

/-! ### Frame start and end -/

/-- TABLE 69: the frame state after the header bytes; bits 9 and 8 of the address are the low two bits
of the first address byte. -/
def frameAfter : List Byte → FrameState
  | [] => .direction
  | [d] => .address (d.getLsbD 7) none
  | [d, h] => .address (d.getLsbD 7) (some (h.setWidth 2))
  | d :: h :: l :: _ => .data (d.getLsbD 7) (h.setWidth 2 ++ l) true

/-- R177, R179, R181: the port with the marks and captures of a frame dropped. -/
def HostPort.clearFrame (p : HostPort) : HostPort :=
  { p with
    frame := .noFrame, marks := [], timeCapture := none, cqCapture := none, nqCapture := none
    snapshots := Vector.replicate 32 none }

/-- R177: CS_N falls. With RESET_N low the port stays in NO_FRAME. -/
def startFrame (header : List Byte) (s : State) : State :=
  if s.port.csN then
    { s with port := { s.port.clearFrame with
        csN := false, frame := if s.port.resetN then frameAfter header else .noFrame } }
  else s

/-- R179: the actions in the order they are taken. -/
def actionOrder : List Action :=
  [.softReset, .engineReset, .pause, .resume, .clearRqSpace, .clearHostMisuse, .submit, .cqPop, .nqPop,
    .execute]

/-- R179: a set of marks in the order its actions are taken. -/
def ordered (marks : List Action) : List Action := actionOrder.filter (· ∈ marks)

/-- A frame is in progress. -/
def FrameState.inFrame : FrameState → Bool
  | .noFrame => false
  | _ => true

/-- R177, R179, R180: CS_N rises. A byte part-way through is dropped and latches HOST_MISUSE, and the
marked actions are handed out to be taken one after another (log 3). -/
def endFrame (midByte : Bool) (s : State) : State :=
  if s.port.csN then s
  else
    let t := if midByte ∧ s.port.frame.inFrame then latchMisuse s else s
    { t with port := { t.port.clearFrame with
        csN := true, actions := t.port.actions ++ ordered t.port.marks } }

/-- FRAME_START. -/
def execFrameStart (header : List Byte) (s : State) : Host.Outcome State Fault Refusal :=
  finish (startFrame header s)

/-- FRAME_END. -/
def execFrameEnd (midByte : Bool) (s : State) : Host.Outcome State Fault Refusal :=
  finish (endFrame midByte s)

/-! ### Bytes of a write frame -/

/-- The window address of the next data byte of a write frame. -/
def HostPort.writeAddr? (p : HostPort) : Option WinAddr :=
  match p.frame with
  | .data false a _ => some a
  | _ => none

/-- R177: the frame moves on to the address after `a`. -/
def HostPort.moveOn (p : HostPort) (isRead : Bool) (a : WinAddr) : HostPort :=
  { p with frame := .data isRead (a + 1) false }

/-- R177, R178: a data byte of a write frame completes, if its address is one that `here` accepts. -/
def writeByte (here : WinAddr → Bool) (v : Byte) (s : State) : State :=
  match s.port.writeAddr? with
  | none => s
  | some a =>
    if here a then
      let t := landByte a v s
      { t with port := t.port.moveOn false a }
    else s

/-- WINDOW_WRITE: at any address (log 24). -/
def execWindowWrite (v : Byte) (s : State) : Host.Outcome State Fault Refusal :=
  finish (writeByte (fun _ => true) v s)

/-- CQ_THRESHOLD_WRITE. -/
def execCqThresholdWrite (v : Byte) (s : State) : Host.Outcome State Fault Refusal :=
  finish (writeByte (fun a => a == 0x012) v s)

/-- COALESCE_TIME_WRITE. -/
def execCoalesceTimeWrite (v : Byte) (s : State) : Host.Outcome State Fault Refusal :=
  finish (writeByte (fun a => a == 0x013) v s)

/-- ENABLES_WRITE. -/
def execEnablesWrite (v : Byte) (s : State) : Host.Outcome State Fault Refusal :=
  finish (writeByte (fun a => a == 0x011) v s)

/-! ### Captures of a read frame -/

/-- R177, R178: a read frame comes to `a` over bytes that take no capture, which have no command of their
own (log 16). -/
def HostPort.comesTo (p : HostPort) (a : WinAddr) : Bool :=
  match p.frame with
  | .data true cur _ =>
    (List.range (a - cur).toNat).all fun k => !p.captureDue (cur + BitVec.ofNat 10 k)
  | _ => false

/-- A read frame comes to `a`, an address of the region `inRegion`: `capture` is made and the frame moves
on. -/
def captureAt (inRegion : WinAddr → Bool) (capture : State → HostPort → HostPort) (a : WinAddr)
    (s : State) : State :=
  if inRegion a && s.port.comesTo a then { s with port := (capture s s.port).moveOn true a } else s

/-- R178: TIME is captured once in a frame. -/
def captureTime (s : State) (p : HostPort) : HostPort :=
  if p.timeCapture.isNone then { p with timeCapture := some s.now } else p

/-- R138: the CQ head, or the empty view, is captured once in a frame. -/
def captureCq (s : State) (p : HostPort) : HostPort :=
  if p.cqCapture.isNone then { p with cqCapture := some (cqHead s) } else p

/-- R175: the NQ head, or the empty view, is captured once in a frame. -/
def captureNq (s : State) (p : HostPort) : HostPort :=
  if p.nqCapture.isNone then { p with nqCapture := some (nqHead s) } else p

/-- R181: slot `n` is captured where the frame enters it: at its first byte, which a frame comes back to
only after the wrap, or within it while no snapshot of it is held. -/
def captureMirror (a : WinAddr) (s : State) (p : HostPort) : HostPort :=
  let n := mirrorIndex a
  if a.toNat % 16 = 0 ∨ (look p.snapshots n).isNone then
    { p with snapshots := put p.snapshots n (some (mirrorView s n)) }
  else p

/-- TIME_CAPTURE. -/
def execTimeCapture (a : WinAddr) (s : State) : Host.Outcome State Fault Refusal :=
  finish (captureAt isTimeAddr captureTime a s)

/-- CQ_HEAD_CAPTURE. -/
def execCqHeadCapture (a : WinAddr) (s : State) : Host.Outcome State Fault Refusal :=
  finish (captureAt isCompletionAddr captureCq a s)

/-- NQ_HEAD_CAPTURE. -/
def execNqHeadCapture (a : WinAddr) (s : State) : Host.Outcome State Fault Refusal :=
  finish (captureAt isNoticeAddr captureNq a s)

/-- MIRROR_SNAPSHOT. -/
def execMirrorSnapshot (a : WinAddr) (s : State) : Host.Outcome State Fault Refusal :=
  finish (captureAt isMirrorAddr (captureMirror a) a s)

end Sys2Proof.Machine
end

