-- ==== Sys2Proof/Machine/Actions.lean ====
section
/-! DEFINITION. The actions of a frame (R179) other than EXECUTE, and the RESET_N pin: resets (R185,
R186), PAUSE and RESUME (R43), the clears of causes (R183), SUBMIT (R28 to R34) and the POPs (R139,
R175). -/

namespace Sys2Proof.Machine

/-! ### Resets -/

/-- SOFT_RESET (R179, R185): device reset; the frame's other actions are dropped with the port's state. -/
def execSoftReset (s : State) : Host.Outcome State Fault Refusal :=
  finish (takeAction .softReset deviceReset s)

/-- Set the RESET_N pin. -/
def setResetN (high : Bool) (s : State) : State := { s with port := { s.port with resetN := high } }

/-- DEVICE_RESET (R185): RESET_N falls. -/
def execDeviceReset (s : State) : Host.Outcome State Fault Refusal :=
  finish (if s.port.resetN then setResetN false (deviceReset s) else s)

/-- RESET_RELEASE (R177, R184): RESET_N rises; the counts start and frames are heard. -/
def execResetRelease (s : State) : Host.Outcome State Fault Refusal :=
  finish (setResetN true s)

/-- ENGINE_RESET (R186). -/
def execEngineReset (s : State) : Host.Outcome State Fault Refusal :=
  finish (takeAction .engineReset engineReset s)

/-! ### PAUSE, RESUME, clears -/

/-- Set PAUSED. -/
def setPaused (p : Bool) (s : State) : State := { s with paused := p }

/-- R43: RESUME of a PAUSED dispatcher makes it RUNNING and it examines its candidate. -/
def resumeDispatcher (s : State) : State := if s.paused then examine (setPaused false s) else s

/-- PAUSE (R43). -/
def execPause (s : State) : Host.Outcome State Fault Refusal :=
  finish (takeAction .pause (setPaused true) s)

/-- RESUME (R43). -/
def execResume (s : State) : Host.Outcome State Fault Refusal :=
  finish (takeAction .resume resumeDispatcher s)

/-- R183: the clear of RQ_SPACE. -/
def clearRqSpace (s : State) : State := { s with irq := { s.irq with rqSpace := false } }

/-- R183: the clear of HOST_MISUSE. -/
def clearHostMisuse (s : State) : State := { s with irq := { s.irq with hostMisuse := false } }

/-- CLEAR_RQ_SPACE (R183). -/
def execClearRqSpace (s : State) : Host.Outcome State Fault Refusal :=
  finish (takeAction .clearRqSpace clearRqSpace s)

/-- CLEAR_HOST_MISUSE (R183). -/
def execClearHostMisuse (s : State) : Host.Outcome State Fault Refusal :=
  finish (takeAction .clearHostMisuse clearHostMisuse s)

/-! ### SUBMIT -/

/-- R30: the target named can take a request: an LT that is ACTIVE or ISOLATED, or a defined group. -/
def targetOk (s : State) (r : Request) : Bool :=
  match r.target with
  | .lt n =>
    match (s.entry n).binding with
    | none => false
    | some b => b.state != .draining
  | .group g => (look s.groups g).members != 0

/-- TABLE 15 checks 2 to 4 on a request that passed the format check. -/
def requestCheck (s : State) (r : Request) : SubmitResult :=
  if !targetOk s r then .unknownTarget
  else if r.tag ∈ heldTags s then .tagInUse
  else if Config.rqCapacity ≤ s.rq.length then .queueFull
  else .accepted

/-- R28, R29: the outcome of a submission's checks. -/
def submitCheck (s : State) : SubmitResult :=
  match stagedRequest? s.port with
  | none => .badFormat
  | some r =>
    if !r.groupKindOk then .groupKind
    else if !r.lengthsOk then .badFormat
    else requestCheck s r

/-- R33: the RQ entry of an accepted request. -/
def newEntry (r : Request) (now : Word16) : RqEntry where
  request      := r
  acceptTime   := now
  deadlineTime := if r.deadline = 0 then none else some (now + r.deadline)
  finish       := none

/-- R34: the report of a submission; the count byte is the number of entries held. -/
def reportSubmit (r : SubmitResult) (s : State) : State :=
  { s with port := { s.port with submitResult := r, submitCount := s.rq.length } }

/-- R33: the request joins the RQ tail. -/
def acceptRequest (r : Request) (s : State) : State := { s with rq := s.rq ++ [newEntry r s.now] }

/-- R28 to R34: a submission is checked, accepted or refused, and reported; an acceptance is handed to
the dispatcher. -/
def submission (s : State) : State :=
  match submitCheck s, stagedRequest? s.port with
  | .accepted, some r => examine (reportSubmit .accepted (acceptRequest r s))
  | result, _ => reportSubmit result s

/-- SUBMIT (R28). -/
def execSubmit (s : State) : Host.Outcome State Fault Refusal :=
  finish (takeAction .submit submission s)

/-! ### POPs -/

/-- R139: the head record goes and postings follow; the contexts and RQ entries they free are handed to
the dispatcher (R45). An empty CQ latches HOST_MISUSE. -/
def popCq (s : State) : State :=
  match s.completion.cq with
  | [] => latchMisuse s
  | _ :: rest => examine (postAll { s with completion := { s.completion with cq := rest } })

/-- R175: the head notice goes; an empty NQ latches HOST_MISUSE. -/
def popNq (s : State) : State :=
  match s.notices.nq with
  | [] => latchMisuse s
  | _ :: rest => { s with notices := { s.notices with nq := rest } }

/-- CQ_POP (R139). -/
def execCqPop (s : State) : Host.Outcome State Fault Refusal :=
  finish (takeAction .cqPop popCq s)

/-- NQ_POP (R175). -/
def execNqPop (s : State) : Host.Outcome State Fault Refusal :=
  finish (takeAction .nqPop popNq s)

end Sys2Proof.Machine
end

