-- ==== Sys2Proof/Machine/BusEvents.lean ====
section
/-! DEFINITION. What happens on a segment's bus: the bus seen busy or free (R76), the limits (R76, R78),
the end of a transaction (R88) and its stop at a byte boundary (R89), the alert input (R168), and the
end of a recovery (R121 to R123). -/

namespace Sys2Proof.Machine

/-! ### Lines and BUS_FREE -/

/-- Both lines of segment `i` seen at one moment (R119). -/
def seeLines (i : SegId) (l : Lines) (s : State) : State := s.putSeg i ((s.seg i).seeLines l)

/-- Both lines released and high. -/
def Lines.free : Lines := ⟨true, true⟩

/-- A start condition on segment `i`: the data line falls while the clock line is high (R76, R119). -/
def seeStart (i : SegId) (s : State) : State :=
  s.putSeg i { s.seg i with clockLine := (s.seg i).clockLine.seen true, dataLine := Line.fallen }

/-- Set BUS_FREE of segment `i` (R76). -/
def putBusFree (i : SegId) (f : Bool) (s : State) : State := s.putSeg i { s.seg i with busFree := f }

/-- BUS_START_SEEN (R76): BUS_FREE becomes no. -/
def execBusStartSeen (i : SegId) (s : State) : Host.Outcome State Fault Refusal :=
  finish (putBusFree i false (seeStart i s))

/-- R76: the bus is judged free. In IDLE BUS_FREE becomes yes; a transaction in WAIT_FREE makes its start
condition and enters TRANSFER; in any other state the engine waits for nothing (log 12). -/
def busFreed (i : SegId) (s : State) : State :=
  match s.segState i with
  | .idle => putBusFree i true (seeLines i Lines.free s)
  | .busy c =>
    match c.phase with
    | .waitFree =>
      (putBusFree i false (seeStart i (seeLines i Lines.free s))).putSegState i
        (.busy { c with phase := .transfer })
    | _ => s
  | _ => s

/-- BUS_FREE_DETECTED (R76). -/
def execBusFreeDetected (i : SegId) (s : State) : Host.Outcome State Fault Refusal :=
  finish (busFreed i s)

/-- R76: BUSY_LIMIT passes in WAIT_FREE: BUS_BUSY_TIMEOUT with nothing driven. -/
def busyLimit (i : SegId) (s : State) : State :=
  match s.segState i with
  | .busy c =>
    match c.phase with
    | .waitFree => endTransaction i c (nothingDriven .busBusyTimeout) s
    | _ => s
  | _ => s

/-- BUSY_LIMIT_EXPIRY (R76). -/
def execBusyLimitExpiry (i : SegId) (s : State) : Host.Outcome State Fault Refusal :=
  finish (busyLimit i s)

/-! ### Stretch limit, stop, end -/

/-- A stop reason is held (R89). -/
def StopRequest.held (r : StopRequest) : Bool := r.cancel || r.disable || r.reset

/-- R89: the byte boundary reached with these bytes is one at which no stop takes effect: that of an
acknowledged address byte with read direction. -/
def letsStopPass (script : List BusItem) (bytes : List BusByte) : Bool :=
  match verdict script bytes with
  | .running _ _ .readAddress => true
  | _ => false

/-- R89: a held stop request takes effect at the first byte boundary reached at or after it, so of the
boundaries after the bytes `atStop` and before the first `upTo` bytes none may be one at which it takes
effect. Without a stop request every trace is kept to. -/
def keepsToStop (c : Current) (t : BusTrace) (upTo : Nat) : Bool :=
  !c.stop.held ||
    (decide (t.atStop ≤ t.bytes.length) && (List.range upTo).all fun n =>
      decide (n ≤ t.atStop) || letsStopPass c.script (t.bytes.take n))

/-- R78: a stretch reaches its limit with `p` gathered so far. With the clock line low no stop can be
made and the transaction ends at once; with it high the stop is made, in PHASE STOPPING. -/
def stretchEnds (i : SegId) (c : Current) (p : Progress) (l : Lines) (s : State) : State :=
  let r := p.failed .stretchTimeout
  let t := seeLines i l s
  if l.clock then t.putSegState i (.busy { c with phase := .stopping r })
  else endTransaction i c r t

/-- R78, R79: what a transaction has gathered at a stretch: in a byte to come, or at the clock release of
the stop that closes it, whether its own bytes or a stop request ended it; after a loss of the bus the
engine drives no clock. -/
def stretchProgress (c : Current) (bytes : List BusByte) : Option Progress :=
  match verdict c.script bytes with
  | .running p _ _ => some p
  | .cut p => if c.stop.held then some p else none
  | .ended r =>
    if r.outcome = .arbitrationLost then none else some ⟨r.bytesAcked, r.addrAcked, r.data⟩
  | .misfit => none

/-- R78: STRETCH_LIMIT passes in a stretch before the end of the transaction (log 19). -/
def stretchLimit (i : SegId) (t : BusTrace) (l : Lines) (s : State) : State :=
  match s.segState i with
  | .busy c =>
    match c.phase, stretchProgress c t.bytes with
    | .transfer, some p => if keepsToStop c t t.bytes.length then stretchEnds i c p l s else s
    | _, _ => s
  | _ => s

/-- STRETCH_LIMIT_EXPIRY (R78). -/
def execStretchLimitExpiry (i : SegId) (t : BusTrace) (l : Lines) (s : State) :
    Host.Outcome State Fault Refusal :=
  finish (stretchLimit i t l s)

/-- R89: what a transaction ends with at a byte boundary at which a stop request is taken: its own outcome
where the byte ends it, otherwise ABORTED, in a write phase after any byte and in a read phase after a byte
that the engine has not acknowledged. Absent where the boundary is none: before the first byte, after an
acknowledged address byte with read direction, after a byte read and acknowledged, or after a loss of the
bus, which falls inside a byte. -/
def boundaryResult (script : List BusItem) (bytes : List BusByte) : Option AttemptResult :=
  if bytes.isEmpty then none
  else
    match verdict script bytes with
    | .ended r => if r.outcome = .arbitrationLost then none else some r
    | .running p _ .write => some (p.failed .aborted)
    | .running _ _ _ => none
    | .cut p => some (p.failed .aborted)
    | .misfit => none

/-- R89: a held stop request takes effect at the first byte boundary; the stop condition leaves both lines
high. -/
def stopAtBoundary (i : SegId) (t : BusTrace) (s : State) : State :=
  match s.segState i with
  | .busy c =>
    match c.phase, boundaryResult c.script t.bytes with
    | .transfer, some r =>
      if c.stop.held ∧ keepsToStop c t t.bytes.length then
        endTransaction i c r (seeLines i Lines.free s)
      else s
    | _, _ => s
  | _ => s

/-- STOP_AT_BYTE_BOUNDARY (R89). -/
def execStopAtByteBoundary (i : SegId) (t : BusTrace) (s : State) :
    Host.Outcome State Fault Refusal :=
  finish (stopAtBoundary i t s)

/-- R79: an ARBITRATION_LOST makes BUS_FREE no. -/
def afterLoss (i : SegId) (r : AttemptResult) (s : State) : State :=
  if r.outcome = .arbitrationLost then putBusFree i false s else s

/-- R88: a transaction ends: by its own shape or outcome in TRANSFER, with no boundary passed at which a
held stop request takes effect (R89); with its fixed outcome in STOPPING. -/
def transactionEnds (i : SegId) (t : BusTrace) (l : Lines) (s : State) : State :=
  match s.segState i with
  | .busy c =>
    match c.phase with
    | .waitFree => s
    | .stopping r => endTransaction i c r (seeLines i l s)
    | .transfer =>
      match verdict c.script t.bytes with
      | .ended r =>
        if keepsToStop c t t.bytes.length then
          endTransaction i c r (afterLoss i r (seeLines i l s))
        else s
      | _ => s
  | _ => s

/-- TRANSACTION_END (R88). -/
def execTransactionEnd (i : SegId) (t : BusTrace) (l : Lines) (s : State) :
    Host.Outcome State Fault Refusal :=
  finish (transactionEnds i t l s)

/-! ### The alert input -/

/-- R168: changes of the alert input are events with ALERT_ENABLE yes, in every state but DISABLED. -/
def alertWatched (g : Segment) : Bool := g.config.alertEnable && !g.state.isDisabled

/-- R168: set the level of the alert input. -/
def putAlertLow (i : SegId) (low : Bool) (s : State) : State := s.putSeg i { s.seg i with alertLow := low }

/-- R168: the alert input becomes asserted. -/
def alertAsserts (i : SegId) (s : State) : State :=
  if (s.seg i).alertLow then s
  else if alertWatched (s.seg i) then opportunity i (putAlertLow i true s)
  else putAlertLow i true s

/-- ALERT_ASSERTED (R168). -/
def execAlertAsserted (i : SegId) (s : State) : Host.Outcome State Fault Refusal :=
  finish (alertAsserts i s)

/-- R168: a release clears LAST_ADDRESS and both counts, and keeps SUSPENDED. -/
def AlertState.released (a : AlertState) : AlertState := ⟨none, 0, 0, a.suspended⟩

/-- R168: the alert input becomes released. -/
def alertReleases (i : SegId) (s : State) : State :=
  if (s.seg i).alertLow then
    let t := putAlertLow i false s
    if alertWatched (s.seg i) then putAlert i (s.seg i).alert.released t else t
  else s

/-- ALERT_RELEASED (R168). -/
def execAlertReleased (i : SegId) (s : State) : Host.Outcome State Fault Refusal :=
  finish (alertReleases i s)

/-! ### Recovery (R121) -/

/-- The wait for the clock line that the recovery procedure stands at: that of step 1, of a clock pulse
of step 3, or of the stop of step 4. -/
inductive RecoveryWait where
  | release
  | pulse
  | stop
  deriving DecidableEq, Repr

/-- How a recovery ends: with success after some pulses, or with a line held. -/
inductive RecoveryEnd where
  | recovered (pulses : Nat)
  | failed (pulses : Nat) (held : LineHeld)
  deriving DecidableEq, Repr

/-- R121: the line held when the clock line does not go high, by the lines as seen when the wait is given
up. In step 4 the engine itself has pulled the data line low, and the spec does not say whether that makes
the line held BOTH; the model takes the data line as it is with the engine's own pull let go (log 25,
DESIGN CHOICE). -/
def heldAtWait (l : Lines) : LineHeld := if l.data then .clock else .both

/-- The end `e`, if nothing is seen after it. -/
def RecoveryEnd.atLast (rest : List Lines) (e : RecoveryEnd) : Option RecoveryEnd :=
  if rest.isEmpty then some e else none

/-- R121: how the procedure ends from the wait `w` on with `pulses` made, over the lines seen at the end of
each wait; absent when what was seen does not bring it to an end exactly. -/
def recoveryFrom : RecoveryWait → Nat → List Lines → Option RecoveryEnd
  | _, _, [] => none
  | w, pulses, l :: rest =>
    if !l.clock then RecoveryEnd.atLast rest (.failed pulses (heldAtWait l))
    else
      let p := if w = .pulse then pulses + 1 else pulses
      if w = .stop ∧ l.data then RecoveryEnd.atLast rest (.recovered p)
      else if l.data then recoveryFrom .stop p rest
      else if p = Config.recoveryPulseLimit then RecoveryEnd.atLast rest (.failed p .data)
      else recoveryFrom .pulse p rest

/-- R121: how the whole procedure ends. -/
def recoveryEnd (seen : List Lines) : Option RecoveryEnd := recoveryFrom .release 0 seen

/-- R119: a segment whose recovery has succeeded: the stop of step 4 has just let both lines go high. -/
def Segment.stopMade (g : Segment) : Segment := { g with clockLine := ⟨true, 0⟩, dataLine := ⟨true, 0⟩ }

/-- R119: the lines of a segment whose recovery has failed. Up to the last tick their times stand as the
ticks of the recovery have them. A clock wait given up has lasted STRETCH_LIMIT, ten ticks at the least, so
the clock line has not moved since the last of them; a data line held is found with the clock line just gone
high. `dataMoved` says whether the data line has moved since the last tick (log 6). -/
def Segment.recoveryFailed (g : Segment) (held : LineHeld) (dataMoved : Bool) : Segment :=
  { g with
    clockLine := if held = .data then ⟨true, 0⟩ else g.clockLine.seen false
    dataLine  := g.dataLine.shown (held = .clock) dataMoved }

/-- R122: a recovery that succeeds. BUS_FREE becomes yes later, by R76 (log 12). -/
def recovered (i : SegId) (pulses : Nat) (cause : EntryCause) (s : State) : State :=
  let s := s.putSeg i { (s.seg i).stopMade with state := .idle, busFree := false }
  let s := postNotice (.segmentRecovered i pulses cause) s
  opportunity i (examine (releaseSegment i s))

/-- R123 step 3: the WAITING and DUE survey entries of segment `i` are held. -/
def holdSegment (i : SegId) : State → State :=
  forSurvey fun n s => if s.svSeg n = some i then holdEntry n s else s

/-- R123: a recovery that fails. -/
def faulted (i : SegId) (pulses : Nat) (held : LineHeld) (cause : EntryCause) (dataMoved : Bool)
    (s : State) : State :=
  let s := s.putSeg i { (s.seg i).recoveryFailed held dataMoved with
    state := .faulted ⟨pulses, cause, some held⟩, consecHost := 0 }
  let s := endEach .segmentFaulted (s.seg i).pendingList s
  let s := holdSegment i s
  examine (postNotice (.segmentFault i pulses held cause) s)

/-- R122: the recovery of segment `i` ends in success by what was seen. -/
def recoveryOk (i : SegId) (seen : List Lines) (s : State) : State :=
  match s.segState i with
  | .recovering r =>
    match recoveryEnd seen with
    | some (.recovered p) => recovered i p r.cause s
    | _ => s
  | _ => s

/-- RECOVERY_SUCCEEDS (R122). -/
def execRecoverySucceeds (i : SegId) (seen : List Lines) (s : State) :
    Host.Outcome State Fault Refusal :=
  finish (recoveryOk i seen s)

/-- R123: the recovery of segment `i` fails by what was seen. -/
def recoveryFails (i : SegId) (t : FailedRecovery) (s : State) : State :=
  match s.segState i with
  | .recovering r =>
    match recoveryEnd t.seen with
    | some (.failed p held) => faulted i p held r.cause t.dataMoved s
    | _ => s
  | _ => s

/-- RECOVERY_FAILS (R123). -/
def execRecoveryFails (i : SegId) (t : FailedRecovery) (s : State) :
    Host.Outcome State Fault Refusal :=
  finish (recoveryFails i t s)

end Sys2Proof.Machine
end

