-- ==== Sys2Proof/Machine/MapCommands.lean ====
section
/-! DEFINITION. The control commands of the target map (R4, R7, R14, R17) and the group table (R20, R22),
and the unknown command (R182). -/

namespace Sys2Proof.Machine

/-- COMMAND_CODE is `c` (TABLE 72). -/
def codeIs (c : Byte) : Byte → Bool := (· == c)

/-! ### MAP_SET -/

/-- R4 check 4: another entry that is not FREE holds the same segment and address. -/
def addressTaken (s : State) (lt : LtId) (b : Binding) : Bool :=
  (List.finRange 64).any fun m =>
    m != lt &&
      match (s.entry m).binding with
      | some x => x.segment == b.segment && x.address == b.address
      | none => false

/-- TABLE 7, checks 2 to 4. -/
def mapSetCheck (s : State) (lt : LtId) (b : Binding) : CommandResult :=
  if b.address = (s.seg b.segment).config.alertAddress then .badArgument
  else if (s.entry lt).binding.isSome then .inUse
  else if addressTaken s lt b then .conflict
  else .done

/-- R4: MAP_SET. The change of the entry's state is handed to the dispatcher (R45). -/
def mapSet (s : State) : State :=
  match mapSetArgs? s with
  | none => answer .badArgument s
  | some (lt, b) =>
    match mapSetCheck s lt b with
    | .done => answer .done (examine (s.putEntry lt ⟨some b, 0, 0⟩))
    | r => answer r s

/-- MAP_SET. -/
def execMapSet (s : State) : Host.Outcome State Fault Refusal :=
  finish (takeCommand (codeIs 0x01) mapSet s)

/-! ### MAP_RETIRE -/

/-- R8: every survey entry naming `lt` at an accepted MAP_RETIRE. -/
def retireSurvey (lt : LtId) : State → State :=
  forSurvey fun n s => if s.svLt n = some lt then retireEntry n s else s

/-- TABLE 8, lines 1 and 2: the retirement of an ACTIVE or ISOLATED entry: FREE at once without a
reference, DRAINING with one. -/
def retire (lt : LtId) (b : Binding) (s : State) : State :=
  let t := retireSurvey lt s
  if (s.entry lt).refCount = 0 then completeRetirement lt b true t
  else t.putEntry lt { s.entry lt with binding := some { b with state := .draining } }

/-- TABLE 8: the result of the retirement of an ACTIVE or ISOLATED entry. -/
def retireResult (e : MapEntry) : CommandResult := if e.refCount = 0 then .done else .accepted

/-- R7: MAP_RETIRE. -/
def mapRetire (s : State) : State :=
  match s.argLt? with
  | none => answer .badArgument s
  | some lt =>
    match (s.entry lt).binding with
    | none => answer .notSet s
    | some b =>
      match b.state with
      | .draining => answer .accepted s
      | _ => answer (retireResult (s.entry lt)) (examine (retire lt b s))

/-- MAP_RETIRE. -/
def execMapRetire (s : State) : Host.Outcome State Fault Refusal :=
  finish (takeCommand (codeIs 0x02) mapRetire s)

/-! ### MAP_REINSTATE and MAP_READ -/

/-- R14: an ISOLATED entry is reinstated. The dispatcher examines its candidate (R45), and released survey
entries that have joined the due list of the LT's segment are a grant opportunity (R162, R92). The rules do
not order the two: that the examination comes first is the model's choice (log 26). -/
def reinstateTarget (lt : LtId) (b : Binding) (s : State) : State :=
  let t := reinstate lt b s
  opportunityIfJoined b.segment s t (examine t)

/-- R14: MAP_REINSTATE. -/
def mapReinstate (s : State) : State :=
  match s.argLt? with
  | none => answer .badArgument s
  | some lt =>
    match (s.entry lt).binding with
    | none => answer .notIsolated s
    | some b =>
      match b.state with
      | .isolated => answer .done (reinstateTarget lt b s)
      | _ => answer .notIsolated s

/-- MAP_REINSTATE. -/
def execMapReinstate (s : State) : Host.Outcome State Fault Refusal :=
  finish (takeCommand (codeIs 0x03) mapReinstate s)

/-- R182: write a copy over the argument area from offset 1 on. -/
def copyOut (bytes : List Byte) (s : State) : State :=
  { s with port := { s.port with args := writeArgs s.port.args 1 bytes } }

/-- R17: MAP_READ. -/
def mapRead (s : State) : State :=
  match s.argLt? with
  | none => answer .badArgument s
  | some lt => answer .done (copyOut (mapReadCopy (s.entry lt)) s)

/-- MAP_READ. -/
def execMapRead (s : State) : Host.Outcome State Fault Refusal :=
  finish (takeCommand (codeIs 0x04) mapRead s)

/-! ### Groups -/

/-- R20: GROUP_SET. -/
def groupSet (s : State) : State :=
  match groupSetArgs? s with
  | none => answer .badArgument s
  | some (g, x) => answer .done (examine { s with groups := put s.groups g x })

/-- GROUP_SET. -/
def execGroupSet (s : State) : Host.Outcome State Fault Refusal :=
  finish (takeCommand (codeIs 0x05) groupSet s)

/-- R22: GROUP_READ. -/
def groupRead (s : State) : State :=
  match s.argGroup? with
  | none => answer .badArgument s
  | some g => answer .done (copyOut (groupReadCopy (look s.groups g)) s)

/-- GROUP_READ. -/
def execGroupRead (s : State) : Host.Outcome State Fault Refusal :=
  finish (takeCommand (codeIs 0x06) groupRead s)

/-! ### Unknown codes -/

/-- R182: a code of 0x00 or above 0x10. -/
def codeUnknown (c : Byte) : Bool := c == 0x00 || decide (0x10 < c.toNat)

/-- UNKNOWN_COMMAND (R182). -/
def execUnknownCommand (s : State) : Host.Outcome State Fault Refusal :=
  finish (takeCommand codeUnknown (answer .unknownCommand) s)

end Sys2Proof.Machine
end

