-- ==== Sys2Proof/Machine/Cancel.lean ====
section
/-! DEFINITION. CANCEL (R114 to R116). -/

namespace Sys2Proof.Machine

/-- R115: a QUEUED entry is withdrawn: FINISHED CANCELLED, never resolved. -/
def cancelQueued (r : Request) (s : State) : State :=
  examine
    (finishQueued r.tag ⟨.of .cancelled, s.now, if r.isGroup then some 0 else none⟩ s)

/-- R89: CANCEL is added to a stop request. -/
def addCancel (c : Current) : Current := { c with stop := { c.stop with cancel := true } }

/-- R116 step 2: an ACTIVE slot is marked, and CANCEL is added to the stop request of the engine that
carries it. -/
def markSlot (k : SlotId) (o : OpSlot) (s : State) : State :=
  let s := s.putSlot k (some { o with state := .active true })
  match s.segState o.segment with
  | .busy c => s.putSegState o.segment (.busy (addCancel c))
  | _ => s

/-- R116 step 2: one occupied slot of the context. -/
def withdrawSlot (k : SlotId) (s : State) : State :=
  match s.slot k with
  | none => s
  | some o =>
    match o.state with
    | .active _ => markSlot k o s
    | _ => slotEnd k .cancelled [] s

/-- R116 step 2: the context's slots in member order. -/
def withdrawSlots : List SlotId → State → State
  | [], s => s
  | k :: ks, s => withdrawSlots ks (withdrawSlot k s)

/-- R89: a marked transaction in WAIT_FREE ends ABORTED at once. -/
def endIfWaiting (i : SegId) (s : State) : State :=
  match s.segState i with
  | .busy c =>
    match c.phase with
    | .waitFree => if c.stop.cancel then endTransaction i c (nothingDriven .aborted) s else s
    | _ => s
  | _ => s

/-- R89: the marked transactions in WAIT_FREE, after every member has been taken (log 13). -/
def endMarkedWaiting (s : State) : State :=
  (List.finRange 4).foldl (fun t i => endIfWaiting i t) s

/-- R116: the running work of context `c` is withdrawn. -/
def cancelRunning (c : CtxId) (x : Context) (s : State) : State :=
  let t := s.putCtx c (some { x with cancelRequested := true })
  endMarkedWaiting (withdrawSlots (slotsOf c t) t)

/-- The RQ entry that holds `tag`. -/
def entryOf? (s : State) (tag : Byte) : Option RqEntry := s.rq.find? fun e => e.request.tag == tag

/-- The held context that carries `tag`. -/
def contextOf? (s : State) (tag : Byte) : Option (CtxId × Context) :=
  (List.finRange 16).findSome? fun c =>
    match s.ctx c with
    | some x => if x.request.tag = tag then some (c, x) else none
    | none => none

/-- TABLE 47, the last four lines. -/
def cancelContext (tag : Byte) (s : State) : State :=
  match contextOf? s tag with
  | none => answer .notFound s
  | some (c, x) =>
    if x.finish.isSome then answer .tooLate s
    else if x.cancelRequested then answer .accepted s
    else answer .accepted (cancelRunning c x s)

/-- R114, TABLE 47: CANCEL. -/
def cancel (s : State) : State :=
  match entryOf? s (s.arg 0) with
  | some e => if e.queued then answer .done (cancelQueued e.request s) else answer .tooLate s
  | none => cancelContext (s.arg 0) s

/-- CANCEL. -/
def execCancel (s : State) : Host.Outcome State Fault Refusal :=
  finish (takeCommand (codeIs 0x10) cancel s)

end Sys2Proof.Machine
end

