-- ==== Sys2Proof/Machine/SegmentCommands.lean ====
section
/-! DEFINITION. The control commands of the segment engines: SEGMENT_CONFIG (R74), SEGMENT_ENABLE (R75),
SEGMENT_DISABLE (R127), SEGMENT_CLEAR (R126), ALERT_RESUME (R172). -/

namespace Sys2Proof.Machine

/-- R74 check 3: a map entry that is not FREE holds this segment and address. -/
def addressBound (s : State) (i : SegId) (a : BusAddr) : Bool := (reverseLookup s i a).isSome

/-- R74: SEGMENT_CONFIG. -/
def segmentConfig (s : State) : State :=
  match segConfigArgs? s with
  | none => answer .badArgument s
  | some (i, c) =>
    if !(s.segState i).isDisabled then answer .inUse s
    else if addressBound s i c.alertAddress then answer .conflict s
    else answer .done (s.putSeg i { s.seg i with config := c })

/-- SEGMENT_CONFIG. -/
def execSegmentConfig (s : State) : Host.Outcome State Fault Refusal :=
  finish (takeCommand (codeIs 0x07) segmentConfig s)

/-- R75 steps 1 and 2: the segment as it enters service. -/
def Segment.enabled (g : Segment) : Segment :=
  { g with state := .idle, consecHost := 0, busFree := false, alert := AlertState.cleared }

/-- R75: SEGMENT_ENABLE. -/
def segmentEnable (s : State) : State :=
  match s.argSeg? with
  | none => answer .badArgument s
  | some i =>
    if (s.segState i).isDisabled then
      answer .done
        (opportunity i (examine (releaseSegment i (s.putSeg i (s.seg i).enabled))))
    else answer .inUse s

/-- SEGMENT_ENABLE. -/
def execSegmentEnable (s : State) : Host.Outcome State Fault Refusal :=
  finish (takeCommand (codeIs 0x08) segmentEnable s)

/-- R89, R127: DISABLE is added to the stop request of the current transaction. -/
def addDisable (c : Current) : Current := { c with stop := { c.stop with disable := true } }

/-- TABLE 50: what SEGMENT_DISABLE does by the state of the segment. -/
def disableSegment (i : SegId) (s : State) : State :=
  match s.segState i with
  | .disabled => s
  | .busy c =>
    match c.phase with
    | .waitFree => endTransaction i (addDisable c) (nothingDriven .aborted)
        (s.putSegState i (.busy (addDisable c)))
    | _ => s.putSegState i (.busy (addDisable c))
  | _ => completeDisable i s

/-- R127: SEGMENT_DISABLE. -/
def segmentDisable (s : State) : State :=
  match s.argSeg? with
  | none => answer .badArgument s
  | some i => answer .done (disableSegment i s)

/-- SEGMENT_DISABLE. -/
def execSegmentDisable (s : State) : Host.Outcome State Fault Refusal :=
  finish (takeCommand (codeIs 0x09) segmentDisable s)

/-- R126: SEGMENT_CLEAR. -/
def segmentClear (s : State) : State :=
  match s.argSeg? with
  | none => answer .badArgument s
  | some i =>
    match s.segState i with
    | .faulted _ => answer .done (examine (enterRecovering i .clear s))
    | _ => answer .notFaulted s

/-- SEGMENT_CLEAR. -/
def execSegmentClear (s : State) : Host.Outcome State Fault Refusal :=
  finish (takeCommand (codeIs 0x0A) segmentClear s)

/-- R172: ALERT_RESUME; a grant opportunity on an IDLE segment. -/
def alertResume (s : State) : State :=
  match s.argSeg? with
  | none => answer .badArgument s
  | some i => answer .done (opportunity i (putAlert i AlertState.cleared s))

/-- ALERT_RESUME. -/
def execAlertResume (s : State) : Host.Outcome State Fault Refusal :=
  finish (takeCommand (codeIs 0x0B) alertResume s)

end Sys2Proof.Machine
end

