-- ==== Sys2Proof/Machine/SurveyCommands.lean ====
section
/-! DEFINITION. The control commands of the survey engine: SURVEY_SET (R149), SURVEY_START (R150),
SURVEY_STOP (R151), SURVEY_READ (R152). -/

namespace Sys2Proof.Machine

/-- R149 check 2: WAITING, DUE, READING or HELD. -/
def SurveyRun.started : SurveyRun → Bool
  | .waiting _ => true
  | .due _ => true
  | .reading _ _ => true
  | .held => true
  | .stopped => false
  | .orphaned => false

/-- R149: the entry is configured, STOPPED, with its counts and mirror slot cleared. -/
def setSurvey (n : SvId) (c : SurveyConf) (s : State) : State :=
  (s.putSv n ⟨some ⟨c, .stopped⟩, 0, 0, .unknown⟩).putMirror n MirrorSlot.cleared

/-- R149: SURVEY_SET. -/
def surveySet (s : State) : State :=
  match surveySetArgs? s with
  | none => answer .badArgument s
  | some (n, c) =>
    if (s.svRun n).any SurveyRun.started then answer .inUse s
    else if (s.entry c.lt).binding.isNone then answer .badArgument s
    else answer .done (setSurvey n c s)

/-- SURVEY_SET. -/
def execSurveySet (s : State) : Host.Outcome State Fault Refusal :=
  finish (takeCommand (codeIs 0x0C) surveySet s)

/-- R150: a STOPPED entry is started: with its LT ACTIVE and its segment IDLE or BUSY it is given its due
time, falling due at once with START_OFFSET 0, and otherwise it is HELD. -/
def startSurvey (n : SvId) (c : SurveyConf) (s : State) : State :=
  match (s.entry c.lt).binding with
  | some b =>
    if b.state = .active ∧ (s.segState b.segment).isServing then
      let t := setDueTime n b.segment s.now c.startOffset s
      opportunityIfJoined b.segment s t t
    else s.putSvRun n .held
  | none => s.putSvRun n .held

/-- R150: SURVEY_START. -/
def surveyStart (s : State) : State :=
  match s.argSv? with
  | none => answer .badArgument s
  | some n =>
    match (s.sv n).setup with
    | some ⟨c, .stopped⟩ => answer .done (startSurvey n c s)
    | _ => answer .notStopped s

/-- SURVEY_START. -/
def execSurveyStart (s : State) : Host.Outcome State Fault Refusal :=
  finish (takeCommand (codeIs 0x0D) surveyStart s)

/-- R151: what SURVEY_STOP does to an entry that is not UNUSED or ORPHANED. -/
def stopSurvey (n : SvId) (r : SurveyRun) (s : State) : State :=
  match r with
  | .waiting _ => s.putSvRun n .stopped
  | .due _ => (leaveDue n s).putSvRun n .stopped
  | .held => s.putSvRun n .stopped
  | .reading d x => if x = .orphaned then s else s.putSvRun n (.reading d .stopped)
  | .stopped => s
  | .orphaned => s

/-- R151: SURVEY_STOP. -/
def surveyStop (s : State) : State :=
  match s.argSv? with
  | none => answer .badArgument s
  | some n =>
    match s.svRun n with
    | none => answer .notSet s
    | some .orphaned => answer .notSet s
    | some r => answer .done (stopSurvey n r s)

/-- SURVEY_STOP. -/
def execSurveyStop (s : State) : Host.Outcome State Fault Refusal :=
  finish (takeCommand (codeIs 0x0E) surveyStop s)

/-- R152: SURVEY_READ. -/
def surveyRead (s : State) : State :=
  match s.argSv? with
  | none => answer .badArgument s
  | some n => answer .done (copyOut (surveyReadCopy (s.sv n)) s)

/-- SURVEY_READ. -/
def execSurveyRead (s : State) : Host.Outcome State Fault Refusal :=
  finish (takeCommand (codeIs 0x0F) surveyRead s)

end Sys2Proof.Machine
end

