-- ==== Sys2Proof/Machine/TimeEvents.lean ====
section
/-! DEFINITION. What time brings: the tick (R119, R184) and the step of TIME (R142, R184), and the moments
judged on them: a backoff's expiry (R103), a deadline in the RQ (R39) or in a context (R105), a survey
entry falling due (R153). -/

namespace Sys2Proof.Machine

/-! ### The timebase -/

/-- R119: the lines of a segment at a tick. -/
def Segment.tickLines (g : Segment) (l : TickLines) : Segment :=
  { g with
    clockLine := g.clockLine.atTick l.clock l.clockMoved
    dataLine  := g.dataLine.atTick l.data l.dataMoved }

/-- R119: segment `i` at a tick. -/
def tickSegment (i : SegId) (l : TickLines) (s : State) : State := s.putSeg i ((s.seg i).tickLines l)

/-- R184: the tick count advances by one. -/
def advanceTick (s : State) : State :=
  { s with timebase := { s.timebase with
      tick := s.timebase.tick + 1, subTicks := s.timebase.subTicks + 1 } }

/-- R184, R185: a tick; with RESET_N low the counts stand. -/
def tick (l0 l1 l2 l3 : TickLines) (s : State) : State :=
  if s.port.resetN then
    tickSegment 3 l3 (tickSegment 2 l2 (tickSegment 1 l1 (tickSegment 0 l0 (advanceTick s))))
  else s

/-- TICK. -/
def execTick (l0 l1 l2 l3 : TickLines) (s : State) : Host.Outcome State Fault Refusal :=
  finish (tick l0 l1 l2 l3 s)

/-- R142: the AGE of every record in the CQ rises by one, up to 255. -/
def ageRecords (q : List CqItem) : List CqItem :=
  q.map fun c => { c with age := min (c.age + 1) Config.byteCeiling }

/-- R184: TIME advances by one at every tenth tick. -/
def stepTime (s : State) : State :=
  if s.port.resetN ∧ Config.ticksPerMs ≤ s.timebase.subTicks then
    { s with
      timebase := { s.timebase with
        time := s.timebase.time + 1, subTicks := s.timebase.subTicks - Config.ticksPerMs }
      completion := { s.completion with cq := ageRecords s.completion.cq } }
  else s

/-- TIME_STEP. -/
def execTimeStep (s : State) : Host.Outcome State Fault Refusal := finish (stepTime s)

/-! ### Backoff -/

/-- R103: the backoff begun at tick `start` with BACKOFF_EXPIRY `expiry` has run out at tick `now`. -/
def backoffOver (now start expiry : Word16) : Bool := decide (elapsed start expiry ≤ elapsed start now)

/-- R103: the expiry of a slot's backoff: PENDING in its place, a grant opportunity of its segment. -/
def expireBackoff (k : SlotId) (s : State) : State :=
  match s.slot k with
  | none => s
  | some o =>
    match o.state with
    | .backoff start expiry =>
      if backoffOver s.timebase.tick start expiry then
        opportunity o.segment (s.putSlot k (some { o with state := .pending }))
      else s
    | _ => s

/-- BACKOFF_EXPIRY. -/
def execBackoffExpiry (k : SlotId) (s : State) : Host.Outcome State Fault Refusal :=
  finish (expireBackoff k s)

/-! ### Deadlines -/

/-- R39: the time elapsed since acceptance has reached DEADLINE. -/
def deadlineReached (r : Request) (acceptTime now : Word16) : Bool :=
  r.deadline != 0 && decide (r.deadline.toNat ≤ elapsed acceptTime now)

/-- R39: the finish of an entry that expires. -/
def expiryFinish (e : RqEntry) : RqFinish :=
  ⟨.of .expired, e.acceptTime + e.request.deadline, if e.request.isGroup then some 0 else none⟩

/-- R39: the deadline of the QUEUED entry that holds `tag` passes. -/
def expireQueued (tag : Byte) (s : State) : State :=
  match s.rq.find? fun e => e.request.tag == tag && e.queued with
  | none => s
  | some e =>
    if deadlineReached e.request e.acceptTime s.now then
      examine (finishQueued tag (expiryFinish e) s)
    else s

/-- QUEUED_DEADLINE_EXPIRY. -/
def execQueuedDeadlineExpiry (tag : Byte) (s : State) : Host.Outcome State Fault Refusal :=
  finish (expireQueued tag s)

/-- R105: DEADLINE_PASSED is set and the waiting slots end EXPIRED in member order. -/
def expireContext (c : CtxId) (x : Context) (s : State) : State :=
  let t := s.putCtx c (some { x with deadlinePassed := some true })
  endEach .expired (slotsOf c t) t

/-- R105: the deadline of a RUNNING context passes. -/
def passDeadline (c : CtxId) (s : State) : State :=
  match s.ctx c with
  | none => s
  | some x =>
    if x.finish.isNone ∧ x.deadlinePassed = some false ∧
        deadlineReached x.request x.acceptTime s.now then
      expireContext c x s
    else s

/-- CONTEXT_DEADLINE_PASSES. -/
def execContextDeadlinePasses (c : CtxId) (s : State) : Host.Outcome State Fault Refusal :=
  finish (passDeadline c s)

/-! ### Falling due -/

/-- R153: the due time has come. -/
def dueReached (d : DueTime) (now : Word16) : Bool :=
  decide (elapsed d.since d.time ≤ elapsed d.since now)

/-- R153: a WAITING entry falls due: it joins the due list, a grant opportunity of its segment. -/
def fallDue (n : SvId) (s : State) : State :=
  match s.svRun n, s.svSeg n with
  | some (.waiting d), some i => if dueReached d s.now then opportunity i (joinDue n i d s) else s
  | _, _ => s

/-- SURVEY_FALLS_DUE. -/
def execSurveyFallsDue (n : SvId) (s : State) : Host.Outcome State Fault Refusal :=
  finish (fallDue n s)

end Sys2Proof.Machine
end

