-- ==== Sys2Proof/Machine/Dispatch.lean ====
section
/-! DEFINITION. One arm per command, each one call of its meaning. -/

namespace Sys2Proof.Machine

def exec (i : Instr) (s : State) : Host.Outcome State Fault Refusal :=
  match i with
  | .frameStart header => Sys2Proof.Machine.execFrameStart header s
  | .frameEnd midByte => Sys2Proof.Machine.execFrameEnd midByte s
  | .windowWrite value => Sys2Proof.Machine.execWindowWrite value s
  | .cqThresholdWrite value => Sys2Proof.Machine.execCqThresholdWrite value s
  | .coalesceTimeWrite value => Sys2Proof.Machine.execCoalesceTimeWrite value s
  | .enablesWrite value => Sys2Proof.Machine.execEnablesWrite value s
  | .timeCapture addr => Sys2Proof.Machine.execTimeCapture addr s
  | .cqHeadCapture addr => Sys2Proof.Machine.execCqHeadCapture addr s
  | .nqHeadCapture addr => Sys2Proof.Machine.execNqHeadCapture addr s
  | .mirrorSnapshot addr => Sys2Proof.Machine.execMirrorSnapshot addr s
  | .softReset => Sys2Proof.Machine.execSoftReset s
  | .deviceReset => Sys2Proof.Machine.execDeviceReset s
  | .resetRelease => Sys2Proof.Machine.execResetRelease s
  | .engineReset => Sys2Proof.Machine.execEngineReset s
  | .pause => Sys2Proof.Machine.execPause s
  | .resume => Sys2Proof.Machine.execResume s
  | .clearRqSpace => Sys2Proof.Machine.execClearRqSpace s
  | .clearHostMisuse => Sys2Proof.Machine.execClearHostMisuse s
  | .submit => Sys2Proof.Machine.execSubmit s
  | .cqPop => Sys2Proof.Machine.execCqPop s
  | .nqPop => Sys2Proof.Machine.execNqPop s
  | .mapSet => Sys2Proof.Machine.execMapSet s
  | .mapRetire => Sys2Proof.Machine.execMapRetire s
  | .mapReinstate => Sys2Proof.Machine.execMapReinstate s
  | .mapRead => Sys2Proof.Machine.execMapRead s
  | .groupSet => Sys2Proof.Machine.execGroupSet s
  | .groupRead => Sys2Proof.Machine.execGroupRead s
  | .segmentConfig => Sys2Proof.Machine.execSegmentConfig s
  | .segmentEnable => Sys2Proof.Machine.execSegmentEnable s
  | .segmentDisable => Sys2Proof.Machine.execSegmentDisable s
  | .segmentClear => Sys2Proof.Machine.execSegmentClear s
  | .alertResume => Sys2Proof.Machine.execAlertResume s
  | .surveySet => Sys2Proof.Machine.execSurveySet s
  | .surveyStart => Sys2Proof.Machine.execSurveyStart s
  | .surveyStop => Sys2Proof.Machine.execSurveyStop s
  | .surveyRead => Sys2Proof.Machine.execSurveyRead s
  | .cancel => Sys2Proof.Machine.execCancel s
  | .unknownCommand => Sys2Proof.Machine.execUnknownCommand s
  | .tick seg0 seg1 seg2 seg3 => Sys2Proof.Machine.execTick seg0 seg1 seg2 seg3 s
  | .backoffExpiry slot => Sys2Proof.Machine.execBackoffExpiry slot s
  | .timeStep => Sys2Proof.Machine.execTimeStep s
  | .queuedDeadlineExpiry tag => Sys2Proof.Machine.execQueuedDeadlineExpiry tag s
  | .contextDeadlinePasses ctx => Sys2Proof.Machine.execContextDeadlinePasses ctx s
  | .surveyFallsDue entry => Sys2Proof.Machine.execSurveyFallsDue entry s
  | .busStartSeen seg => Sys2Proof.Machine.execBusStartSeen seg s
  | .busFreeDetected seg => Sys2Proof.Machine.execBusFreeDetected seg s
  | .busyLimitExpiry seg => Sys2Proof.Machine.execBusyLimitExpiry seg s
  | .stretchLimitExpiry seg trace lines => Sys2Proof.Machine.execStretchLimitExpiry seg trace lines s
  | .stopAtByteBoundary seg trace => Sys2Proof.Machine.execStopAtByteBoundary seg trace s
  | .transactionEnd seg trace lines => Sys2Proof.Machine.execTransactionEnd seg trace lines s
  | .alertAsserted seg => Sys2Proof.Machine.execAlertAsserted seg s
  | .alertReleased seg => Sys2Proof.Machine.execAlertReleased seg s
  | .recoverySucceeds seg seen => Sys2Proof.Machine.execRecoverySucceeds seg seen s
  | .recoveryFails seg trace => Sys2Proof.Machine.execRecoveryFails seg trace s

end Sys2Proof.Machine
end

