-- ==== Sys2Proof/Safety.lean ====
section
/-! DEFINITION. The laws the spec says the part keeps, and the terms statements use: a command at hand, an
action taken, and what the work of the engines leaves alone. -/

namespace Sys2Proof.Machine

/-! ### Commands at hand -/

/-- `a` is the first of the actions handed out at a frame end, with `rest` behind it (R179). -/
def State.atAction (s : State) (a : Action) (rest : List Action) : Prop := s.port.actions = a :: rest

/-- The state with the actions still to take. -/
def State.leaving (s : State) (rest : List Action) : State :=
  { s with port := { s.port with actions := rest } }

/-- EXECUTE is at hand with `code` in COMMAND_CODE (R182). -/
def State.atCommand (s : State) (code : Byte) (rest : List Action) : Prop :=
  s.port.commandCode = code ∧ s.atAction .execute rest

/-- A write frame whose next byte lands at `a` (R177). -/
def State.writingAt (s : State) (a : WinAddr) : Prop := ∃ first, s.port.frame = .data false a first

/-- A read frame whose next byte is that of `a` (R177). -/
def State.readingAt (s : State) (a : WinAddr) : Prop := ∃ first, s.port.frame = .data true a first

/-- The state with its read frame at `a`. -/
def State.readOn (s : State) (a : WinAddr) : State :=
  { s with port := { s.port with frame := .data true a false } }

/-- R138, R175, R178, R181: the byte at `a` is one at which a read frame takes a capture: the first of
TIME, of the completion window or of the notice window, or the one at which it enters a mirror slot. -/
def State.capturesAt (s : State) (a : WinAddr) : Prop :=
  isTimeAddr a = true ∧ s.port.timeCapture = none ∨
    isCompletionAddr a = true ∧ s.port.cqCapture = none ∨
    isNoticeAddr a = true ∧ s.port.nqCapture = none ∨
    ∃ n : SvId, a.toNat / 16 = 32 + n.val ∧ (a.toNat % 16 = 0 ∨ look s.port.snapshots n = none)

/-! ### Laws -/

/-- R32, R138, R173: the RQ, the CQ and the NQ hold no more than their capacities. -/
def CapacityLaw (s : State) : Prop :=
  s.rq.length ≤ 32 ∧ s.completion.cq.length ≤ 32 ∧ s.notices.nq.length ≤ 16

/-- R31: no two requests held carry the same TAG. -/
def TagLaw (s : State) : Prop := (heldTags s).Nodup

/-- R3: no two entries that are not FREE hold the same segment and address, and none holds its segment's
ALERT_ADDRESS. -/
def AddressLaw (s : State) : Prop :=
  (∀ m n a b, (s.entry m).binding = some a → (s.entry n).binding = some b →
    a.segment = b.segment → a.address = b.address → m = n) ∧
  ∀ n b, (s.entry n).binding = some b → b.address ≠ (s.seg b.segment).config.alertAddress

/-- R183: IRQ_N is low exactly while some cause is 1 with its enable 1. -/
def IrqLaw (s : State) : Prop := s.irq.irqN = irqLevel s

/-- The range of a bus address (Conventions): 0x08 to 0x77. -/
def inBusRange (a : BusAddr) : Prop := 0x08 ≤ a.toNat ∧ a.toNat ≤ 0x77

/-- TABLE 5, TABLE 31: every bus address and ALERT_ADDRESS held lies in the range. -/
def AddressRangeLaw (s : State) : Prop :=
  (∀ n b, (s.entry n).binding = some b → inBusRange b.address) ∧
  ∀ i, inBusRange (s.seg i).config.alertAddress

/-! ### Words of the statements -/

/-- The window addresses a host frame can write: GLOBAL_CONTROL, CAUSES and the settings, the staging
area to SUBMIT, the POPs, the command block and EXECUTE (TABLE 71). -/
def writable (a : WinAddr) : Prop :=
  a.toNat = 0x002 ∨ (0x010 ≤ a.toNat ∧ a.toNat ≤ 0x013) ∨ (0x053 ≤ a.toNat ∧ a.toNat ≤ 0x07E) ∨
    a.toNat = 0x0DF ∨ a.toNat = 0x0FF ∨ (0x100 ≤ a.toNat ∧ a.toNat ≤ 0x13C) ∨ a.toNat = 0x13F

/-- The bytes of type RW that hold only themselves: the staging fields, SUBMIT, COMMAND_CODE and the
ARGUMENTS (TABLE 71). -/
def plainByte (a : WinAddr) : Prop :=
  (0x053 ≤ a.toNat ∧ a.toNat ≤ 0x07C) ∨ a.toNat = 0x07E ∨ (0x100 ≤ a.toNat ∧ a.toNat ≤ 0x13C)

/-- The bytes a host writes to mark actions alone: GLOBAL_CONTROL, CAUSES, the POPs and EXECUTE (R179). -/
def actionByte (a : WinAddr) : Prop :=
  a = 0x002 ∨ a = 0x010 ∨ a = 0x0DF ∨ a = 0x0FF ∨ a = 0x13F

/-- R178, R179: the action a byte written marks. -/
def marks (a : WinAddr) (v : Byte) : Action → Prop
  | .softReset => a.toNat = 0x002 ∧ v.getLsbD 0
  | .engineReset => a.toNat = 0x002 ∧ v.getLsbD 1
  | .pause => a.toNat = 0x002 ∧ v.getLsbD 2
  | .resume => a.toNat = 0x002 ∧ v.getLsbD 3
  | .clearRqSpace => a.toNat = 0x010 ∧ v.getLsbD 2
  | .clearHostMisuse => a.toNat = 0x010 ∧ v.getLsbD 3
  | .submit => a.toNat = 0x07E ∧ v = 0x01
  | .cqPop => a.toNat = 0x0DF ∧ v = 0x01
  | .nqPop => a.toNat = 0x0FF ∧ v = 0x01
  | .execute => a.toNat = 0x13F ∧ v = 0x01

/-- The state after a data byte at `a`: the frame has moved on. -/
def State.movedOn (s : State) (isRead : Bool) (a : WinAddr) : State :=
  { s with port := { s.port with frame := .data isRead (a + 1) false } }

/-- A segment as device reset leaves it: the reset values of TABLE 31 and R97, its input pins as they
stood. -/
def segmentAtReset (old new : Segment) : Prop :=
  new.state = .disabled ∧ new.config = ⟨.standard, 25, 35, 35, 10, 4, 0x0C, false⟩ ∧
    new.pendingList = [] ∧ new.dueList = [] ∧ new.consecHost = 0 ∧ new.busFree = false ∧
    new.alert = ⟨none, 0, 0, false⟩ ∧ new.clockLine = ⟨old.clockLine.high, 0⟩ ∧
    new.dataLine = ⟨old.dataLine.high, 0⟩ ∧ new.alertLow = old.alertLow

/-- R185 and the reset rules of the chapters: what device reset leaves of `old`. -/
def afterDeviceReset (old new : State) : Prop :=
  new.pending = old.pending ∧ new.port.csN = old.port.csN ∧ new.port.frame = .noFrame ∧
    new.port.actions = [] ∧ new.port.marks = [] ∧ (∀ k, look new.port.staging k = 0) ∧
    new.port.submitByte = 0 ∧ new.port.submitCount = 0 ∧ new.port.submitResult = .none ∧
    new.port.commandCode = 0 ∧ (∀ k, look new.port.args k = 0) ∧ new.port.commandResult = .none ∧
    new.timebase = ⟨0, 0, 0⟩ ∧ new.irq = ⟨false, false, 0, true⟩ ∧
    (∀ lt, new.entry lt = ⟨none, 0, 0⟩) ∧ (∀ g, look new.groups g = ⟨0, .all⟩) ∧
    new.rq = [] ∧ new.paused = false ∧ (∀ c, new.ctx c = none) ∧ (∀ k, new.slot k = none) ∧
    (∀ i, segmentAtReset (old.seg i) (new.seg i)) ∧ (∀ n, new.sv n = ⟨none, 0, 0, .unknown⟩) ∧
    (∀ n, new.mirrorSlot n = ⟨0, .empty, 0, 0, 0⟩) ∧ new.completion = ⟨[], [], 1, 0⟩ ∧
    new.notices = ⟨[], 0⟩

/-- The commands that stand for what happens at a slot, a context, an entry or a bus: the moments judged
on time and the events of the buses. -/
def ofSlotOrBus : Instr → Prop
  | .backoffExpiry _ => True
  | .queuedDeadlineExpiry _ => True
  | .contextDeadlinePasses _ => True
  | .surveyFallsDue _ => True
  | .busStartSeen _ => True
  | .busFreeDetected _ => True
  | .busyLimitExpiry _ => True
  | .stretchLimitExpiry _ _ _ => True
  | .stopAtByteBoundary _ _ => True
  | .transactionEnd _ _ _ => True
  | .alertAsserted _ => True
  | .alertReleased _ => True
  | .recoverySucceeds _ _ => True
  | .recoveryFails _ _ => True
  | _ => False

/-- No queued request waits on the dispatcher. -/
def State.noneQueued (s : State) : Prop := ∀ e ∈ s.rq, e.queued = false

/-- Nothing waits for the bus of segment `g`: both lists are empty and no alert query is called for. -/
def Segment.noWork (g : Segment) : Prop :=
  g.pendingList = [] ∧ g.dueList = [] ∧
    ¬ (g.config.alertEnable = true ∧ g.alert.suspended = false ∧ g.alertLow = true)

/-- R119: no line of the segment is held low. -/
def Segment.linesFree (g : Segment) : Prop :=
  ∀ l ∈ [g.clockLine, g.dataLine], l.high = true ∨ l.steady < g.config.stuckTime * 10

/-- Nothing waits on the completion unit and the CQ has room. -/
def State.postingOpen (s : State) : Prop :=
  s.completion.posting = [] ∧ s.completion.cq.length < 32

/-- The state with a record at the CQ tail, AGE 0 (R135). -/
def State.withRecord (s : State) (r : CompletionRecord) : State :=
  { s with completion := { s.completion with cq := s.completion.cq ++ [⟨r, 0⟩] } }

/-- R174: the state after a notice is posted: it is at the NQ tail with TIME and DROPPED_BEFORE, and DROPPED
is 0; or, the NQ holding 16 records, it is discarded and DROPPED rises by one, up to 255. -/
def State.withNotice (s : State) (b : NoticeBody) : State :=
  { s with notices :=
      if s.notices.nq.length < 16 then ⟨s.notices.nq ++ [⟨b, s.timebase.time, s.notices.dropped⟩], 0⟩
      else ⟨s.notices.nq, min (s.notices.dropped + 1) 255⟩ }

/-- The state with COMMAND_RESULT written (R182). -/
def State.answered (s : State) (r : CommandResult) : State :=
  { s with port := { s.port with commandResult := r } }

/-- The state with segment `i` in segment state `st`. -/
def State.inState (s : State) (i : SegId) (st : SegState) : State :=
  s.putSeg i { s.seg i with state := st }

/-- The line levels and times of a segment seen at one moment (R119). -/
def Segment.sees (g : Segment) (l : Lines) : Segment :=
  { g with
    clockLine := if g.clockLine.high = l.clock then g.clockLine else ⟨l.clock, 0⟩
    dataLine  := if g.dataLine.high = l.data then g.dataLine else ⟨l.data, 0⟩ }

/-- TABLE 14: WRITE_LENGTH and READ_LENGTH match KIND. -/
def Request.lengthsMatch (r : Request) : Prop :=
  match r.kind with
  | .write => 1 ≤ r.writeData.length ∧ r.readLength = 0
  | .read => r.writeData.length = 0 ∧ 1 ≤ r.readLength
  | .writeRead => 1 ≤ r.writeData.length ∧ 1 ≤ r.readLength
  | .probe => r.writeData.length = 0 ∧ r.readLength = 0
  | .blockRead => r.writeData.length = 1 ∧ 1 ≤ r.readLength

/-- R30: the target named can take no request: an LT that is FREE or DRAINING, or an undefined group. -/
def State.refusesTarget (s : State) : Target → Prop
  | .lt n => ∀ b, (s.entry n).binding = some b → b.state = .draining
  | .group g => (look s.groups g).members = 0

/-- R31: a request held in the RQ or in a context carries `tag`. -/
def State.holdsTag (s : State) (tag : Byte) : Prop :=
  (∃ e ∈ s.rq, e.request.tag = tag) ∨ ∃ c x, s.ctx c = some x ∧ x.request.tag = tag

/-- R133: enough members ended DONE. -/
def Policy.met (p : Policy) (members : List Member) : Prop :=
  match p with
  | .all => ∀ m ∈ members, m.outcome = some .done
  | .any => ∃ m ∈ members, m.outcome = some .done
  | .quorum n => n ≤ (members.filter (·.outcome == some .done)).length

/-- R4 check 4, R74 check 3: some map entry that is not FREE holds this segment and address. -/
def State.bound (s : State) (i : SegId) (a : BusAddr) : Prop :=
  ∃ m b, (s.entry m).binding = some b ∧ b.segment = i ∧ b.address = a

/-- R149 check 2: the entry is WAITING, DUE, READING or HELD. -/
def State.started (s : State) (n : SvId) : Prop :=
  ∃ r, s.svRun n = some r ∧ r ≠ .stopped ∧ r ≠ .orphaned

/-- Slot `k` of the state carries the single member of the single-target context `c`, whose only open
slot it is: the setting of the statements on one operation. -/
def State.carries (s : State) (k : SlotId) (o : OpSlot) (c : CtxId) (x : Context) : Prop :=
  s.slot k = some o ∧ s.ctx c = some x ∧ o.context = c ∧ o.member = 0 ∧ x.outstanding = 1 ∧
    x.finish = none ∧ x.policy = none ∧ x.request.target = .lt o.lt ∧ x.request.kind = o.kind ∧
    x.members = [⟨o.lt, none, 0, 0⟩]

/-- R59, R65, R132, R135, R137: the state after the waiting slot `k` of the single-target context `c` has
ended with `outcome`: it has left its list and is FREE, its reference is released, its context is freed and
its record is in the CQ. -/
def State.opEnded (s : State) (k : SlotId) (o : OpSlot) (c : CtxId) (x : Context) (outcome : Outcome) :
    State :=
  ((((s.putSeg o.segment { s.seg o.segment with
      pendingList := (s.seg o.segment).pendingList.filter (· != k) }).putSlot k none).putEntry o.lt
      { s.entry o.lt with refCount := (s.entry o.lt).refCount - 1 }).putCtx c none).withRecord
    { tag := x.request.tag, status := .of outcome, kind := o.kind, target := .lt o.lt
      attempts := o.attempts, finishTime := s.timebase.time, result := x.result
      bytesAcked := if o.kind = .write ∨ o.kind = .writeRead then some o.lastAcked else none
      successSet := none, failSet := none }

/-- The state after notices of these bodies are posted, in order (R174). -/
def State.withNotices (s : State) (l : List NoticeBody) : State := l.foldl State.withNotice s

/-- R65, R88, R132, R135, R137: the state after the ACTIVE slot `k` of the single-target context `c` has ended
with its attempt: it is FREE, its map entry is `e`, its context is freed and its record, with `acked` write
bytes acknowledged, is in the CQ. -/
def State.attemptEnded (s : State) (k : SlotId) (o : OpSlot) (c : CtxId) (x : Context) (e : MapEntry)
    (status : Status) (result : Option (List Byte)) (acked : Nat) : State :=
  (((s.putSlot k none).putEntry o.lt e).putCtx c none).withRecord
    { tag := x.request.tag, status := status, kind := o.kind, target := .lt o.lt
      attempts := o.attempts, finishTime := s.timebase.time, result := result
      bytesAcked := if o.kind = .write ∨ o.kind = .writeRead then some acked else none
      successSet := none, failSet := none }

/-- R77, TABLE 33: bytes read to the end of a shape, the engine acknowledging each but the last. -/
def readBytes : List Byte → List BusByte
  | [] => []
  | [v] => [.read v false]
  | v :: vs => .read v true :: readBytes vs

/-- R48, R49: the targets a request names as the group table stands, in ascending order. -/
def State.named (s : State) (r : Request) : List LtId :=
  match r.target with
  | .lt n => [n]
  | .group g => (List.finRange 64).filter fun n => (look s.groups g).members.getLsbD n.val

/-- R47: a target resolves as live. -/
def State.isLive (s : State) (r : Request) (lt : LtId) : Bool :=
  match resolve s r.kind lt with
  | .live _ _ => true
  | .failed _ => false

/-- The live targets a request names, each with its place in the member list. -/
def State.liveTargets (s : State) (r : Request) : List (LtId × Nat) :=
  (s.named r).zipIdx.filter fun p => s.isLive r p.1

/-- R76, R93, R120: a segment as a grant leaves it: the work is CURRENT, past its start condition with
BUS_FREE yes already and both lines high, and else in WAIT_FREE. -/
def Segment.granted (g : Segment) (w : Work) (lt : Option LtId) (script : List BusItem) : Segment :=
  if g.busFree = true ∧ g.clockLine.high = true ∧ g.dataLine.high = true then
    { g with
      state := .busy ⟨w, lt, script, .transfer, ⟨false, false, false⟩⟩, busFree := false
      dataLine := ⟨false, 0⟩ }
  else { g with
    state := .busy ⟨w, lt, script, .waitFree, ⟨false, false, false⟩⟩, busFree := false }

/-- R64: slot `k` can be granted with `before` listed before it: it is PENDING and none of those names its
LT. -/
def State.mayGo (s : State) (before : List SlotId) (k : SlotId) : Prop :=
  ∃ o, s.slot k = some o ∧ o.state = .pending ∧
    ∀ j ∈ before, ∀ p, s.slot j = some p → p.lt ≠ o.lt

/-- What a transaction of segment `i` ends with: by its bytes in TRANSFER, or as already fixed in
STOPPING. -/
def Current.endsBy (c : Current) (t : BusTrace) (r : AttemptResult) : Prop :=
  c.stop = ⟨false, false, false⟩ ∧
    (c.phase = .transfer ∧ verdict c.script t.bytes = .ended r ∨ c.phase = .stopping r)

/-- `t` is `s` with the survey entries in the runs `f` gives them, those that `leaves` picks gone from the
due list of segment `i`. -/
def State.surveyMoved (s t : State) (i : SegId) (f : SurveyConf → SurveyRun → SurveyRun)
    (leaves : SurveyConf → SurveyRun → Bool) : Prop :=
  t = { s with survey := t.survey, segs := t.segs } ∧
    (∀ n, t.sv n = { s.sv n with setup := (s.sv n).setup.map fun u => ⟨u.conf, f u.conf u.run⟩ }) ∧
    ∀ j, t.seg j = if j = i then { s.seg i with dueList := (s.seg i).dueList.filter fun n =>
        match (s.sv n).setup with
        | some u => !leaves u.conf u.run
        | none => true }
      else s.seg j

/-- R89: the bytes reach the first boundary at which a stop request held takes effect, no byte having been
completed between it and the request but the one in progress: in a write phase, or by a byte read that the
engine leaves unacknowledged. -/
def Current.stopsAt (c : Current) (t : BusTrace) (p : Progress) : Prop :=
  c.phase = .transfer ∧ c.stop ≠ ⟨false, false, false⟩ ∧ t.bytes ≠ [] ∧
    t.atStop ≤ t.bytes.length ∧ t.bytes.length ≤ t.atStop + 1 ∧
    ((∃ rest, verdict c.script t.bytes = .running p rest .write) ∨ verdict c.script t.bytes = .cut p)

/-- R88, R89: a host attempt ends with its own outcome, in TRANSFER no boundary having been passed at which a
stop request held takes effect, or in STOPPING with the STRETCH_TIMEOUT fixed before. -/
def Current.endsOwn (c : Current) (t : BusTrace) (r : AttemptResult) : Prop :=
  c.phase = .transfer ∧ verdict c.script t.bytes = .ended r ∧
      (c.stop = ⟨false, false, false⟩ ∨
        t.atStop ≤ t.bytes.length ∧ t.bytes.length ≤ t.atStop + 1) ∨
    c.phase = .stopping r ∧ r.outcome = .stretchTimeout

/-- R101: the outcome is retryable, ATTEMPTS is at most RETRY_BUDGET, and the deadline has not passed. -/
def OpSlot.mayRetry (o : OpSlot) (x : Context) (r : AttemptResult) : Prop :=
  (r.outcome = .addressNack ∨ r.outcome = .arbitrationLost ∨ r.outcome = .busBusyTimeout) ∧
    o.attempts ≤ x.request.retryBudget ∧ x.deadlinePassed ≠ some true

/-- R162: `w` is `s` with the HELD survey entries of the logical targets that `pick` names due now, joined to
the due list of segment `i`, the others keeping their order. -/
def State.released (s w : State) (i : SegId) (pick : LtId → Bool) : Prop :=
  w = { s with survey := w.survey, segs := w.segs } ∧
    (∀ n, w.sv n = { s.sv n with
      setup := (s.sv n).setup.map fun u =>
        if u.run = .held ∧ pick u.conf.lt = true then
          ⟨u.conf, .due ⟨s.timebase.time, s.timebase.time⟩⟩
        else u }) ∧
    (∀ j, w.seg j = { s.seg j with dueList := (w.seg j).dueList }) ∧
    (∀ j, j ≠ i → (w.seg j).dueList = (s.seg j).dueList) ∧
    (s.seg i).dueList.Sublist (w.seg i).dueList ∧
    ∀ n, n ∈ (w.seg i).dueList ↔ n ∈ (s.seg i).dueList ∨
      ∃ c, (s.sv n).setup = some ⟨c, .held⟩ ∧ pick c.lt = true

/-- R75, R122: `lt` is ACTIVE on segment `i`. -/
def State.activeOn (s : State) (i : SegId) (lt : LtId) : Bool :=
  (s.entry lt).binding.any fun b => b.segment == i && b.state == .active

/-- A DUE entry, which stands in a due list. -/
def SurveyRun.isDue : SurveyRun → Bool
  | .due _ => true
  | _ => false

/-- A READING entry. -/
def SurveyRun.isReading : SurveyRun → Bool
  | .reading _ _ => true
  | _ => false

/-- R12, R123: WAITING and DUE entries are held. -/
def SurveyRun.whenHeld : SurveyRun → SurveyRun
  | .waiting _ => .held
  | .due _ => .held
  | r => r

/-- R128 step 3: a disable holds a READING entry too, unless it is to be ORPHANED. -/
def SurveyRun.whenDisabled : SurveyRun → SurveyRun
  | .reading _ .orphaned => .orphaned
  | .reading _ _ => .held
  | r => r.whenHeld

/-- R123 step 3: `v` is `s` with the WAITING and DUE survey entries of segment `i` HELD. -/
def State.holdsSurvey (s : State) (i : SegId) (v : State) : Prop :=
  s.surveyMoved v i
    (fun c r => if (s.entry c.lt).binding.map (·.segment) = some i then r.whenHeld else r)
    (fun c r => (s.entry c.lt).binding.map (·.segment) == some i && r.isDue)

/-- R128: `v` is `s` with segment `i`, on whose pending list nothing is left, DISABLED: its survey entries are
held and its alert collector is cleared. -/
def State.disables (s : State) (i : SegId) (v : State) : Prop :=
  ∃ w, s.surveyMoved w i
      (fun c r => if (s.entry c.lt).binding.map (·.segment) = some i then r.whenDisabled else r)
      (fun c r => (s.entry c.lt).binding.map (·.segment) == some i && r.isDue) ∧
    v = w.putSeg i { w.seg i with
      state := .disabled, consecHost := 0, busFree := false, alert := ⟨none, 0, 0, false⟩ }

/-- R8: MAP_RETIRE orphans an entry, a READING one at the end of its read. -/
def SurveyRun.whenRetired : SurveyRun → SurveyRun
  | .reading d _ => .reading d .orphaned
  | _ => .orphaned

/-- R166: engine reset at `now`, with the entry's PERIOD: a DUE entry and a READING one wait again. -/
def SurveyRun.whenReset (now period : Word16) : SurveyRun → SurveyRun
  | .due _ => .waiting ⟨now + period, now⟩
  | .reading _ .orphaned => .orphaned
  | .reading _ _ => .waiting ⟨now + period, now⟩
  | r => r

/-- R18: a transaction in progress names `lt`. -/
def State.inProgress (s : State) (lt : LtId) : Prop :=
  ∃ i c, (s.seg i).state = .busy c ∧ c.lt = some lt

/-- R156, R157: the value of a survey read: the first `length` bytes read, the first the lowest. -/
def readValue (length : Nat) (data : List Byte) (v : Mask64) : Prop :=
  ∀ k < 64, v.getLsbD k = (decide (k < 8 * length) && (data.getD (k / 8) 0).getLsbD (k % 8))

/-- R157: a value read is stored: the first ever, or one that differs from the value held. -/
def MirrorSlot.stores (m : MirrorSlot) (length : Nat) (v : Mask64) : Prop :=
  m.generation = 0 ∨ ∃ k < 8 * length, v.getLsbD k ≠ m.value.getLsbD k

/-- R158: a stored value of a CHANGE entry is reported. -/
def MirrorSlot.reports (m : MirrorSlot) (c : SurveyConf) (mask v : Mask64) : Prop :=
  m.stores c.length v ∧ (m.generation = 0 → c.notifyFirst = true) ∧
    (m.generation ≠ 0 → ∃ k < 8 * c.length, mask.getLsbD k = true ∧ v.getLsbD k ≠ m.value.getLsbD k)

/-- R159: the place of a value by LOW and HIGH. -/
def placedBy (low high v : Mask64) (w : WindowState) : Prop :=
  (v.toNat < low.toNat → w = .below) ∧ (low.toNat ≤ v.toNat → high.toNat < v.toNat → w = .above) ∧
    (low.toNat ≤ v.toNat → v.toNat ≤ high.toNat → w = .inside)

/-- R157 to R160: what a survey read of entry `n` that ends with `r` makes of its mirror slot, CONSEC_FAILS
and WINDOW_STATE, and the notices it posts. -/
def State.takesRead (s : State) (n : SvId) (c : SurveyConf) (r : AttemptResult) (m : MirrorSlot)
    (fails : Nat) (w : WindowState) (l : List NoticeBody) : Prop :=
  let old := s.mirrorSlot n
  let before := (s.sv n).windowState
  (r.outcome = .done → fails = 0 ∧ ∃ v l', readValue c.length r.data v ∧
    (old.stores c.length v → m = ⟨if old.generation = 65535 then 1 else old.generation + 1, .valid,
      c.length, v, s.timebase.time⟩) ∧
    (¬ old.stores c.length v → m = { old with status := .valid, lastReadTime := s.timebase.time }) ∧
    l = (if old.status = .stale then [.surveyRecovered n m.generation m.value] else []) ++ l' ∧
    match c.mode with
    | .none => w = before ∧ l' = []
    | .change mask => w = before ∧
        (old.reports c mask v → l' = [.surveyChange n m.generation m.value]) ∧
        (¬ old.reports c mask v → l' = [])
    | .window low high => placedBy low high v w ∧
        (w = before ∨ before = .unknown ∧ w = .inside → l' = []) ∧
        (w ≠ before → ¬ (before = .unknown ∧ w = .inside) →
          l' = [.surveyWindow n w before m.generation m.value])) ∧
  (r.outcome ≠ .done → w = before ∧ fails = min ((s.sv n).consecFails + 1) 15 ∧
    ((s.sv n).consecFails < fails ∧ fails = c.failThreshold →
      m = { old with status := .stale } ∧ l = [.surveyFailed n c.lt r.outcome fails]) ∧
    (¬ ((s.sv n).consecFails < fails ∧ fails = c.failThreshold) → m = old ∧ l = []))

/-- R171: the alert collector `x` becomes `y` at a query answered by address `a`. -/
def AlertState.answered (x y : AlertState) (a : BusAddr) : Prop :=
  y.lastAddress = some a ∧ y.nackCount = 0 ∧
    y.repeatCount = (if x.lastAddress = some a then min (x.repeatCount + 1) 8 else 1) ∧
    y.suspended = (x.suspended || y.repeatCount == 8)

/-- R171: the alert collector `x` becomes `y` at a query without a response. -/
def AlertState.missed (x y : AlertState) (o : Outcome) : Prop :=
  y.nackCount = min (x.nackCount + 1) 3 ∧ y.suspended = (x.suspended || y.nackCount == 3) ∧
    (o = .addressNack → y.lastAddress = none ∧ y.repeatCount = 0) ∧
    (o ≠ .addressNack → y.lastAddress = x.lastAddress ∧ y.repeatCount = x.repeatCount)

/-! ### Layouts of the window -/

/-- A 16-bit field at two bytes, the lower byte first. -/
def shows16 (w : Word16) (lo hi : Byte) : Prop := w.toNat = lo.toNat + 256 * hi.toNat

/-- A 64-bit field over the eight bytes from offset `k` on, bit by bit. -/
def shows64 (v : Mask64) (b : Nat → Byte) (k : Nat) : Prop :=
  ∀ n < 64, (b (k + n / 8)).getLsbD (n % 8) = v.getLsbD n

/-- TABLE 72: STATUS codes. -/
def statusCode : Status → Byte
  | .ok => 0x01
  | .of .addressNack => 0x02
  | .of .dataNack => 0x03
  | .of .arbitrationLost => 0x04
  | .of .busBusyTimeout => 0x05
  | .of .stretchTimeout => 0x06
  | .of .blockLengthError => 0x07
  | .of .cancelled => 0x08
  | .of .expired => 0x09
  | .of .targetIsolated => 0x0A
  | .of .targetRetired => 0x0B
  | .of .segmentDisabled => 0x0C
  | .of .segmentFaulted => 0x0D
  | .groupPolicyFailed => 0x0E
  | .of .done => 0x00
  | .of .aborted => 0x00

/-- TABLE 74: the bytes of the completion window show the record. -/
def recordShows (r : CompletionRecord) (b : Nat → Byte) : Prop :=
  b 0 = r.tag ∧ b 1 = statusCode r.status ∧
    b 2 = (match r.kind with
      | .write => 1 | .read => 2 | .writeRead => 3 | .probe => 4 | .blockRead => 5) ∧
    (∀ n, r.target = .lt n → b 3 = 0 ∧ (b 4).toNat = n.val) ∧
    (∀ g, r.target = .group g → b 3 = 1 ∧ (b 4).toNat = g.val) ∧
    b 5 = BitVec.ofNat 8 r.attempts ∧ shows16 r.finishTime (b 6) (b 7) ∧
    b 8 = BitVec.ofNat 8 (r.result.getD []).length ∧ b 9 = BitVec.ofNat 8 (r.bytesAcked.getD 0) ∧
    shows64 (r.successSet.getD 0) b 10 ∧ shows64 (r.failSet.getD 0) b 18 ∧
    ∀ k < 32, b (26 + k) = (r.result.getD []).getD k 0

/-- TABLE 72: map STATE codes of a bound entry. -/
def boundCode : Bound → Byte
  | .active => 1 | .isolated => 2 | .draining => 3

/-- TABLE 72: WINDOW_STATE codes. -/
def windowCode : WindowState → Byte
  | .unknown => 0 | .below => 1 | .inside => 2 | .above => 3

/-- TABLE 72: line held codes. -/
def heldCode : LineHeld → Byte
  | .clock => 1 | .data => 2 | .both => 3

/-- TABLE 72: entry cause codes. -/
def causeCode : EntryCause → Byte
  | .check => 1 | .stretch => 2 | .clear => 3

/-- GENERATION and the first four bytes of VALUE, from DETAIL byte `k` on, and 0 after them. -/
def valueShows (g : Word16) (v : Mask64) (d : Nat → Byte) (k : Nat) : Prop :=
  shows16 g (d k) (d (k + 1)) ∧
    (∀ n < 32, (d (k + 2 + n / 8)).getLsbD (n % 8) = v.getLsbD n) ∧ ∀ n, k + 6 ≤ n → n < 8 → d n = 0

/-- DETAIL begins with these bytes, and is 0 after them. -/
def detailIs (d : Nat → Byte) (l : List Byte) : Prop := ∀ n < 8, d n = l.getD n 0

/-- TABLE 67, TABLE 72, TABLE 75: KIND, SUBJECT and the DETAIL bytes of a notice. -/
def noticeShows (body : NoticeBody) (kind subject : Byte) (d : Nat → Byte) : Prop :=
  match body with
  | .alert lt i a st => kind = 0x01 ∧ subject.toNat = lt.val ∧
      detailIs d [BitVec.ofNat 8 i.val, BitVec.ofNat 8 a.toNat, boundCode st]
  | .strayAlert i a v => kind = 0x02 ∧ subject.toNat = i.val ∧ detailIs d [BitVec.ofNat 8 a.toNat, v]
  | .alertStuck i cause a => kind = 0x03 ∧ subject.toNat = i.val ∧
      detailIs d [if cause = .repeated then 1 else 2, BitVec.ofNat 8 a.toNat]
  | .surveyChange n g v => kind = 0x04 ∧ subject.toNat = n.val ∧ valueShows g v d 0
  | .surveyWindow n new old g v => kind = 0x05 ∧ subject.toNat = n.val ∧ d 0 = windowCode new ∧
      d 1 = windowCode old ∧ valueShows g v d 2
  | .surveyFailed n lt o f => kind = 0x06 ∧ subject.toNat = n.val ∧
      detailIs d [BitVec.ofNat 8 lt.val, statusCode (.of o), BitVec.ofNat 8 f]
  | .surveyRecovered n g v => kind = 0x07 ∧ subject.toNat = n.val ∧ valueShows g v d 0
  | .targetIsolated lt i a f => kind = 0x08 ∧ subject.toNat = lt.val ∧
      detailIs d [BitVec.ofNat 8 i.val, BitVec.ofNat 8 a.toNat, BitVec.ofNat 8 f]
  | .targetReinstated lt i a => kind = 0x09 ∧ subject.toNat = lt.val ∧
      detailIs d [BitVec.ofNat 8 i.val, BitVec.ofNat 8 a.toNat]
  | .targetRetired lt i a => kind = 0x0A ∧ subject.toNat = lt.val ∧
      detailIs d [BitVec.ofNat 8 i.val, BitVec.ofNat 8 a.toNat]
  | .segmentFault i p h c => kind = 0x0B ∧ subject.toNat = i.val ∧
      detailIs d [BitVec.ofNat 8 p, heldCode h, causeCode c]
  | .segmentRecovered i p c => kind = 0x0C ∧ subject.toNat = i.val ∧
      detailIs d [BitVec.ofNat 8 p, causeCode c]

/-- TABLE 77: the sixteen bytes of a mirror slot. -/
def mirrorShows (m : MirrorSlot) (overruns fails : Nat) (b : Nat → Byte) : Prop :=
  shows16 m.generation (b 0) (b 1) ∧
    b 2 = (match m.status with | .empty => 0 | .valid => 1 | .stale => 2) ∧
    b 3 = BitVec.ofNat 8 m.valueLength ∧ shows64 m.value b 4 ∧
    shows16 m.lastReadTime (b 12) (b 13) ∧ b 14 = BitVec.ofNat 8 overruns ∧ b 15 = BitVec.ofNat 8 fails

/-- TABLE 75: the bytes of the notice window show the notice. -/
def noticeWindowShows (n : Notice) (b : Nat → Byte) : Prop :=
  noticeShows n.body (b 0) (b 1) (fun k => b (5 + k)) ∧ shows16 n.time (b 2) (b 3) ∧
    b 4 = BitVec.ofNat 8 n.droppedBefore

/-- R143: the condition of CQ_READY. -/
def CompletionUnit.ready (u : CompletionUnit) : Prop :=
  u.threshold ≤ u.cq.length ∨ u.coalesce ≠ 0 ∧ ∃ h rest, u.cq = h :: rest ∧ u.coalesce ≤ h.age

/-- TABLE 71, TABLE 72: the bytes of the window outside the queue heads and the mirror; what holds no
register, and the bytes a host writes to act, read 0. -/
def tableShows (s : State) (b : WinAddr → Byte) : Prop :=
  b 0x000 = 0x5C ∧ b 0x001 = 0x02 ∧ b 0x003 = (if s.paused then 1 else 0) ∧
    shows16 s.timebase.time (b 0x004) (b 0x005) ∧
    ((b 0x010).getLsbD 0 = true ↔ s.completion.ready) ∧
    ((b 0x010).getLsbD 1 = true ↔ s.notices.nq ≠ []) ∧
    (b 0x010).getLsbD 2 = s.irq.rqSpace ∧ (b 0x010).getLsbD 3 = s.irq.hostMisuse ∧
    (∀ n, 4 ≤ n → (b 0x010).getLsbD n = false) ∧
    b 0x011 = s.irq.enables ∧ b 0x012 = BitVec.ofNat 8 s.completion.threshold ∧
    b 0x013 = BitVec.ofNat 8 s.completion.coalesce ∧ b 0x020 = BitVec.ofNat 8 s.rq.length ∧
    b 0x021 = BitVec.ofNat 8 ((List.finRange 16).filter fun c => (s.ctx c).isSome).length ∧
    b 0x022 = BitVec.ofNat 8 ((List.finRange 24).filter fun k => (s.slot k).isSome).length ∧
    b 0x023 = BitVec.ofNat 8 s.completion.cq.length ∧ b 0x024 = BitVec.ofNat 8 s.notices.nq.length ∧
    b 0x025 = BitVec.ofNat 8 s.notices.dropped ∧
    (∀ i : SegId, b (0x026 + BitVec.ofNat 10 i.val) = (match (s.seg i).state with
      | .disabled => 0 | .idle => 1 | .busy _ => 2 | .recovering _ => 3 | .faulted _ => 4) ∧
      (b 0x02A).getLsbD i.val = (s.seg i).alert.suspended) ∧
    (∀ n, 4 ≤ n → (b 0x02A).getLsbD n = false) ∧
    (∀ k : Fin 42, b (0x053 + BitVec.ofNat 10 k.val) = look s.port.staging k) ∧
    b 0x07D = BitVec.ofNat 8 s.port.submitCount ∧ b 0x07E = s.port.submitByte ∧
    b 0x07F = (match s.port.submitResult with
      | .none => 0x00 | .accepted => 0x01 | .badFormat => 0x20 | .groupKind => 0x21
      | .unknownTarget => 0x22 | .tagInUse => 0x23 | .queueFull => 0x24) ∧
    b 0x100 = s.port.commandCode ∧
    (∀ k : Fin 60, b (0x101 + BitVec.ofNat 10 k.val) = look s.port.args k) ∧
    b 0x13D = (match s.port.commandResult with
      | .none => 0x00 | .done => 0x01 | .accepted => 0x02 | .inUse => 0x10 | .notSet => 0x11
      | .conflict => 0x12 | .badArgument => 0x13 | .notIsolated => 0x14 | .notStopped => 0x15
      | .notFaulted => 0x16 | .notFound => 0x17 | .tooLate => 0x18 | .unknownCommand => 0x19) ∧
    ∀ a : WinAddr, a.toNat = 0x002 ∨ (0x006 ≤ a.toNat ∧ a.toNat < 0x010) ∨
      (0x014 ≤ a.toNat ∧ a.toNat < 0x020) ∨ (0x02B ≤ a.toNat ∧ a.toNat < 0x053) ∨
      (0x0BA ≤ a.toNat ∧ a.toNat < 0x0E0) ∨ (0x0ED ≤ a.toNat ∧ a.toNat < 0x100) ∨
      (0x13E ≤ a.toNat ∧ a.toNat < 0x200) → b a = 0

/-- R182: the byte of an argument area at offset `k`. -/
def copied (a : Vector Byte 60) (k : Nat) : Byte := if h : k < 60 then look a ⟨k, h⟩ else 0

/-- TABLE 72, TABLE 76: MODE with MASK, LOW and HIGH as SURVEY_READ copies them, absent ones 0. -/
def modeShows (m : SurveyMode) (b : Nat → Byte) : Prop :=
  match m with
  | .none => b 9 = 0 ∧ shows64 0 b 10 ∧ shows64 0 b 18 ∧ shows64 0 b 26
  | .change k => b 9 = 1 ∧ shows64 k b 10 ∧ shows64 0 b 18 ∧ shows64 0 b 26
  | .window lo hi => b 9 = 2 ∧ shows64 0 b 10 ∧ shows64 lo b 18 ∧ shows64 hi b 26

/-- TABLE 72, TABLE 76: STATE, DUE_TIME and EXIT_TO as SURVEY_READ copies them, absent ones 0. -/
def runShows (r : SurveyRun) (b : Nat → Byte) : Prop :=
  match r with
  | .stopped => b 36 = 1 ∧ shows16 0 (b 37) (b 38) ∧ b 39 = 0
  | .waiting d => b 36 = 2 ∧ shows16 d.time (b 37) (b 38) ∧ b 39 = 0
  | .due d => b 36 = 3 ∧ shows16 d.time (b 37) (b 38) ∧ b 39 = 0
  | .reading d x => b 36 = 4 ∧ shows16 d.time (b 37) (b 38) ∧
      b 39 = (match x with | .waiting => 2 | .stopped => 1 | .orphaned => 6)
  | .held => b 36 = 5 ∧ shows16 0 (b 37) (b 38) ∧ b 39 = 0
  | .orphaned => b 36 = 6 ∧ shows16 0 (b 37) (b 38) ∧ b 39 = 0

/-! ### What the work of the engines leaves alone -/

/-- R1: a binding stays as it was, its STATE apart, or is gone. -/
def BindingKept (old new : Option Binding) : Prop :=
  ∀ b, new = some b → ∃ a, old = some a ∧ a.segment = b.segment ∧ a.address = b.address ∧
    a.threshold = b.threshold ∧ a.autoReinstate = b.autoReinstate

/-- What grants, admissions, slot ends, postings and transaction ends leave alone, whatever they do: the
host port, the timebase, the groups, the settings, the pins, the configuration of the survey; no binding
is made or changed, no tag is taken, the RQ does not grow, and the CQ and the NQ keep their bounds. -/
structure EngineFrame (s t : State) : Prop where
  pending    : t.pending = s.pending
  port       : t.port = s.port
  timebase   : t.timebase = s.timebase
  groups     : t.groups = s.groups
  paused     : t.paused = s.paused
  enables    : t.irq.enables = s.irq.enables
  hostMisuse : t.irq.hostMisuse = s.irq.hostMisuse
  irqN       : t.irq.irqN = s.irq.irqN
  rqSpace    : s.irq.rqSpace = true → t.irq.rqSpace = true
  threshold  : t.completion.threshold = s.completion.threshold
  coalesce   : t.completion.coalesce = s.completion.coalesce
  config     : ∀ i, (t.seg i).config = (s.seg i).config
  alertLow   : ∀ i, (t.seg i).alertLow = (s.seg i).alertLow
  clockLine  : ∀ i, (t.seg i).clockLine = (s.seg i).clockLine
  binding    : ∀ lt, BindingKept (s.entry lt).binding (t.entry lt).binding
  survey     : ∀ n, (t.sv n).setup.map (·.conf) = (s.sv n).setup.map (·.conf)
  rqLength   : t.rq.length ≤ s.rq.length
  cqLength   : t.completion.cq.length ≤ max s.completion.cq.length 32
  nqLength   : t.notices.nq.length ≤ max s.notices.nq.length 16
  tags       : (heldTags t).Subperm (heldTags s)

end Sys2Proof.Machine
end

