-- ==== Sys2Proof/Certificates/Slice0/Obligations.lean ====
section
/-! DEFINITION. The statements for the provers, from the numbered rules of spec/. -/

open Sys2Proof Sys2Proof.Machine

/-! ### The machine -/

/-- The command at the front of the queue is the one taken, with the queue's rest left waiting; with
nothing waiting the block idles (log 1). -/
def Obligations.StepTakesFrontCommand : Prop :=
  (∀ (c : Instr) (rest : List Instr) (s : State),
    step { s with pending := c :: rest } = exec c { s with pending := rest }) ∧
  ∀ s : State, s.pending = [] → step s = .next s

/-- Every command ends in a next state and leaves the queue to the step. -/
def Obligations.CommandsLeaveTheQueue : Prop :=
  ∀ (c : Instr) (s : State), ∃ t, exec c s = .next t ∧ t.pending = s.pending

/-- R183 with R143 and R175: after every command IRQ_N is low exactly while a cause is 1 with its enable
1, the causes being CQ_READY, NQ_READY, RQ_SPACE and HOST_MISUSE in bits 0 to 3. -/
def Obligations.IrqFollowsCauses : Prop :=
  ∀ (c : Instr) (s t : State), exec c s = .next t →
    (t.irq.irqN = false ↔
      (t.irq.enables.getLsbD 0 = true ∧
        (t.completion.threshold ≤ t.completion.cq.length ∨
          t.completion.coalesce ≠ 0 ∧
            ∃ h rest, t.completion.cq = h :: rest ∧ t.completion.coalesce ≤ h.age)) ∨
      (t.irq.enables.getLsbD 1 = true ∧ t.notices.nq ≠ []) ∨
      (t.irq.enables.getLsbD 2 = true ∧ t.irq.rqSpace = true) ∨
      (t.irq.enables.getLsbD 3 = true ∧ t.irq.hostMisuse = true))

/-- R32, R138, R173: the capacities of the RQ, the CQ and the NQ are kept by every step. -/
def Obligations.CapacityLawKept : Prop :=
  ∀ s t : State, CapacityLaw s → step s = .next t → CapacityLaw t

/-- R31: no step gives two held requests the same TAG. -/
def Obligations.TagLawKept : Prop :=
  ∀ s t : State, TagLaw s → step s = .next t → TagLaw t

/-- R3: no step gives two bound entries one segment and address, or an entry its segment's ALERT_ADDRESS;
and every address stays in the range. -/
def Obligations.AddressLawKept : Prop :=
  ∀ s t : State, AddressLaw s → AddressRangeLaw s → step s = .next t → AddressLaw t ∧ AddressRangeLaw t

/-- The laws hold after device reset. -/
def Obligations.ResetMeetsTheLaws : Prop :=
  CapacityLaw State.reset ∧ TagLaw State.reset ∧ AddressLaw State.reset ∧
    AddressRangeLaw State.reset ∧ IrqLaw State.reset

/-- R1: only MAP_SET writes a binding; through every other command a binding stays, its STATE apart, or
goes. R73, R97: a segment's settings change at SEGMENT_CONFIG of a DISABLED segment, and at device reset,
which gives the reset settings. R147: the configuration of a survey entry changes at SURVEY_SET and at
device reset alone. -/
def Obligations.ConfigurationKept : Prop :=
  (∀ (c : Instr) (s t : State), c ≠ .mapSet → exec c s = .next t →
    ∀ lt, BindingKept (s.entry lt).binding (t.entry lt).binding) ∧
  (∀ (c : Instr) (s t : State) (i : SegId), exec c s = .next t →
    (t.seg i).config ≠ (s.seg i).config →
      (c = .segmentConfig ∧ (s.seg i).state = .disabled) ∨
      ((c = .softReset ∨ c = .deviceReset) ∧
        (t.seg i).config = ⟨.standard, 25, 35, 35, 10, 4, 0x0C, false⟩)) ∧
  ∀ (c : Instr) (s t : State) (n : SvId), exec c s = .next t → c ≠ .surveySet →
    c ≠ .softReset → c ≠ .deviceReset →
    (t.sv n).setup.map (·.conf) = (s.sv n).setup.map (·.conf)

/-- R27, R34, R43, R141, R183, R184: whatever happens at slots, contexts, entries and buses, the host
port, TIME and the tick count, the groups, the dispatcher's state, the enables, HOST_MISUSE and the
completion settings stay as they are, and the RQ does not grow. -/
def Obligations.EventsLeaveTheHostSide : Prop :=
  ∀ (c : Instr) (s t : State), ofSlotOrBus c → exec c s = .next t →
    t.port = s.port ∧ t.timebase = s.timebase ∧ t.groups = s.groups ∧ t.paused = s.paused ∧
    t.irq.enables = s.irq.enables ∧ t.irq.hostMisuse = s.irq.hostMisuse ∧
    t.completion.threshold = s.completion.threshold ∧ t.completion.coalesce = s.completion.coalesce ∧
    t.rq.length ≤ s.rq.length

/-! ### Frames and the window -/

/-- R177, TABLE 69: FRAME_START with CS_N high and RESET_N high begins a frame with nothing marked or
captured. CS_N falling enters DIRECTION; that FRAME_START brings the header bytes with it, as far as the
frame gets, and so leaves the frame in the state that TABLE 69 gives after them, is the model's choice
(log 21, DESIGN CHOICE). -/
def Obligations.FrameStartTakesHeader : Prop :=
  ∀ (s : State), s.port.csN = true → s.port.resetN = true →
    (∀ (header : List Byte), ∃ f, exec (.frameStart header) s = finish { s with port := { s.port with
      csN := false, frame := f, marks := [], timeCapture := none, cqCapture := none
      nqCapture := none, snapshots := Vector.replicate 32 none } } ∧
      (header = [] → f = .direction) ∧
      (∀ d, header = [d] → f = .address (decide (128 ≤ d.toNat)) none) ∧
      (∀ d h, header = [d, h] →
        ∃ x : BitVec 2, x.toNat = h.toNat % 4 ∧ f = .address (decide (128 ≤ d.toNat)) (some x)) ∧
      (∀ d h l, header = [d, h, l] → ∃ a : WinAddr, a.toNat = (h.toNat % 4) * 256 + l.toNat ∧
        f = .data (decide (128 ≤ d.toNat)) a true))

/-- R179, R180: FRAME_END hands out the marked actions, each once and in ascending window address; a byte
part-way through latches HOST_MISUSE. That the actions are handed out, each a command of its own, is the
model's reading (log 3). -/
def Obligations.FrameEndHandsOutMarks : Prop :=
  ∀ (s : State) (midByte : Bool), s.port.csN = false →
    ∃ l : List Action, (∀ a, a ∈ l ↔ a ∈ s.port.marks) ∧
      l.Sublist [.softReset, .engineReset, .pause, .resume, .clearRqSpace, .clearHostMisuse, .submit,
        .cqPop, .nqPop, .execute] ∧
      exec (.frameEnd midByte) s = finish
        { s with
          port := { s.port with
            csN := true, frame := .noFrame, marks := [], timeCapture := none, cqCapture := none
            nqCapture := none, snapshots := Vector.replicate 32 none
            actions := s.port.actions ++ l }
          irq := { s.irq with
            hostMisuse := s.irq.hostMisuse || (midByte && s.port.frame != .noFrame) } }

/-- R178: a byte written to a staging field, SUBMIT, COMMAND_CODE or the ARGUMENTS is read back from the
window, every other window byte reads as before, the frame moves on by one address, and nothing outside
the port changes. -/
def Obligations.PlainBytesLand : Prop :=
  ∀ (s : State) (a : WinAddr) (v : Byte), s.writingAt a → plainByte a →
    ∃ t, exec (.windowWrite v) s = .next t ∧ t.windowByte a = v ∧
      (∀ b, b ≠ a → t.windowByte b = s.windowByte b) ∧ t.writingAt (a + 1) ∧
      t = judgeIrq { s with port := t.port } ∧ t.port.actions = s.port.actions ∧
      t.port.submitResult = s.port.submitResult ∧ t.port.csN = s.port.csN

/-- R178, R180: a byte written to an RO or unlisted address latches HOST_MISUSE and does nothing else. -/
def Obligations.UnwritableBytesLatchMisuse : Prop :=
  ∀ (s : State) (a : WinAddr) (v : Byte), s.writingAt a → ¬ writable a →
    exec (.windowWrite v) s =
      finish { s.movedOn false a with irq := { s.irq with hostMisuse := true } }

/-- R178, R179: what a byte written marks: the trigger value at an ACT byte or SUBMIT, each 1 of
GLOBAL_CONTROL, bits 2 and 3 of CAUSES; a mark is not added twice. A byte that only marks, and the RI byte
SUBMIT_COUNT, leave everything else alone. WINDOW_WRITE at the address of a named write does what that one
does (log 24). -/
def Obligations.WritesMarkActions : Prop :=
  ∀ (s : State) (a : WinAddr) (v : Byte), s.writingAt a →
    (∃ t, exec (.windowWrite v) s = .next t ∧
      (∀ x, x ∈ t.port.marks ↔ x ∈ s.port.marks ∨ marks a v x) ∧
      (s.port.marks.Nodup → t.port.marks.Nodup) ∧ t.port.actions = s.port.actions) ∧
    (actionByte a → ∃ l, exec (.windowWrite v) s = finish { s with port := { s.port with
      frame := .data false (a + 1) false, marks := l } }) ∧
    (a = 0x07D → exec (.windowWrite v) s = finish (s.movedOn false a)) ∧
    (a = 0x011 → exec (.windowWrite v) s = exec (.enablesWrite v) s) ∧
    (a = 0x012 → exec (.windowWrite v) s = exec (.cqThresholdWrite v) s) ∧
    (a = 0x013 → exec (.windowWrite v) s = exec (.coalesceTimeWrite v) s)

/-- R141, R183: CQ_THRESHOLD takes 1 to 32 and keeps its value otherwise, with HOST_MISUSE latched;
COALESCE_TIME and ENABLES take every value. -/
def Obligations.SettingBytesLand : Prop :=
  ∀ (s : State) (v : Byte),
    (s.writingAt 0x012 → 1 ≤ v.toNat → v.toNat ≤ 32 →
      exec (.cqThresholdWrite v) s = finish { s.movedOn false 0x012 with
        completion := { s.completion with threshold := v.toNat } }) ∧
    (s.writingAt 0x012 → (v.toNat = 0 ∨ 32 < v.toNat) →
      exec (.cqThresholdWrite v) s = finish { s.movedOn false 0x012 with
        irq := { s.irq with hostMisuse := true } }) ∧
    (s.writingAt 0x013 → exec (.coalesceTimeWrite v) s = finish { s.movedOn false 0x013 with
      completion := { s.completion with coalesce := v.toNat } }) ∧
    (s.writingAt 0x011 → exec (.enablesWrite v) s = finish { s.movedOn false 0x011 with
      irq := { s.irq with enables := v } })

/-- R138, R175, R178, R181: a read frame at `a` captures TIME, the CQ head and the NQ head at its first
byte of the region, and a mirror slot with its entry's counts where it enters the slot; a byte further on
captures nothing; nothing else changes. A capture that stands further on in the frame is reached over the
bytes between, if none of them takes a capture: that plain bytes have no command of their own is the
model's choice (log 16). -/
def Obligations.CapturesTaken : Prop :=
  (∀ (s : State) (a : WinAddr), s.readingAt a →
    (isTimeAddr a = true → s.port.timeCapture = none → exec (.timeCapture a) s =
      finish { s with port := { s.port with
        frame := .data true (a + 1) false, timeCapture := some s.timebase.time } }) ∧
    (isTimeAddr a = true → s.port.timeCapture ≠ none →
      exec (.timeCapture a) s = finish (s.movedOn true a)) ∧
    (isCompletionAddr a = true → s.port.cqCapture = none → exec (.cqHeadCapture a) s =
      finish { s with port := { s.port with
        frame := .data true (a + 1) false
        cqCapture := some (s.completion.cq.head?.map (·.record)) } }) ∧
    (isCompletionAddr a = true → s.port.cqCapture ≠ none →
      exec (.cqHeadCapture a) s = finish (s.movedOn true a)) ∧
    (isNoticeAddr a = true → s.port.nqCapture = none → exec (.nqHeadCapture a) s =
      finish { s with port := { s.port with
        frame := .data true (a + 1) false, nqCapture := some s.notices.nq.head? } }) ∧
    (isNoticeAddr a = true → s.port.nqCapture ≠ none →
      exec (.nqHeadCapture a) s = finish (s.movedOn true a)) ∧
    ∀ n : SvId, a.toNat / 16 = 32 + n.val →
      ((a.toNat % 16 = 0 ∨ look s.port.snapshots n = none) → exec (.mirrorSnapshot a) s =
        finish { s with port := { s.port with
          frame := .data true (a + 1) false
          snapshots := put s.port.snapshots n
            (some ⟨s.mirrorSlot n, (s.sv n).overruns, (s.sv n).consecFails⟩) } }) ∧
      (a.toNat % 16 ≠ 0 → look s.port.snapshots n ≠ none →
        exec (.mirrorSnapshot a) s = finish (s.movedOn true a))) ∧
  ∀ (s : State) (at_ a : WinAddr) (c : Instr), s.readingAt at_ →
    (c = .timeCapture a ∧ isTimeAddr a = true) ∨ (c = .cqHeadCapture a ∧ isCompletionAddr a = true) ∨
      (c = .nqHeadCapture a ∧ isNoticeAddr a = true) ∨
      (c = .mirrorSnapshot a ∧ isMirrorAddr a = true) →
    ((∀ k < (a - at_).toNat, ¬ s.capturesAt (at_ + BitVec.ofNat 10 k)) →
      exec c s = exec c (s.readOn a)) ∧
    ((∃ k < (a - at_).toNat, s.capturesAt (at_ + BitVec.ofNat 10 k)) → exec c s = finish s)

/-- R138, R164, R175, R177, R178, R181, TABLE 71 to TABLE 77: the byte a read frame is driven. From a
capture it shows the TIME, record, notice or mirror slot captured, and does not follow what the rest of the
part does; without a capture it is the live byte. Empty heads and bytes of no register read 0. The output
is driven 0 in the header and in a write frame and not at all without a frame; at a byte where a read frame
takes a capture it is the live byte, whatever snapshot the frame has held of that mirror slot before. -/
def Obligations.ReadFrameIsDriven : Prop :=
  ∀ (s : State),
    (∀ (t : State) (a : WinAddr), t.port = s.port →
      (isTimeAddr a = true ∧ s.port.timeCapture ≠ none ∨
        isCompletionAddr a = true ∧ s.port.cqCapture ≠ none ∨
        isNoticeAddr a = true ∧ s.port.nqCapture ≠ none ∨
        ∃ n : SvId, a.toNat / 16 = 32 + n.val ∧ look s.port.snapshots n ≠ none) →
      t.readByte a = s.readByte a) ∧
    (∀ a : WinAddr, (isTimeAddr a = true → s.port.timeCapture = none) →
      (isCompletionAddr a = true → s.port.cqCapture = none) →
      (isNoticeAddr a = true → s.port.nqCapture = none) →
      (∀ n : SvId, a.toNat / 16 = 32 + n.val → look s.port.snapshots n = none) →
      s.readByte a = s.windowByte a) ∧
    (∀ t, s.port.timeCapture = some t → shows16 t (s.readByte 0x004) (s.readByte 0x005)) ∧
    (let read (k : Nat) := s.readByte (0x080 + BitVec.ofNat 10 k)
      let live (k : Nat) := s.windowByte (0x080 + BitVec.ofNat 10 k)
      (∀ r, s.port.cqCapture = some (some r) → recordShows r read) ∧
        (s.port.cqCapture = some none → ∀ k < 58, read k = 0) ∧
        (∀ h q, s.completion.cq = h :: q → recordShows h.record live) ∧
        (s.completion.cq = [] → ∀ k < 58, live k = 0)) ∧
    (let read (k : Nat) := s.readByte (0x0E0 + BitVec.ofNat 10 k)
      let live (k : Nat) := s.windowByte (0x0E0 + BitVec.ofNat 10 k)
      (∀ n, s.port.nqCapture = some (some n) → noticeWindowShows n read) ∧
        (s.port.nqCapture = some none → ∀ k < 13, read k = 0) ∧
        (∀ n q, s.notices.nq = n :: q → noticeWindowShows n live) ∧
        (s.notices.nq = [] → ∀ k < 13, live k = 0)) ∧
    (∀ n : SvId,
      let at_ (k : Nat) : WinAddr := BitVec.ofNat 10 (0x200 + 16 * n.val + k)
      (∀ v, look s.port.snapshots n = some v →
        mirrorShows v.slot v.overruns v.consecFails fun k => s.readByte (at_ k)) ∧
      mirrorShows (s.mirrorSlot n) (s.sv n).overruns (s.sv n).consecFails
        fun k => s.windowByte (at_ k)) ∧
    tableShows s s.windowByte ∧
    (s.port.frame = .noFrame → s.hostOutput = none) ∧
    (s.port.frame = .direction → s.hostOutput = some 0) ∧
    (∀ d h, s.port.frame = .address d h → s.hostOutput = some 0) ∧
    (∀ a, s.writingAt a → s.hostOutput = some 0) ∧
    ∀ a, s.readingAt a →
      (s.capturesAt a → s.hostOutput = some (s.windowByte a)) ∧
      (¬ s.capturesAt a → s.hostOutput = some (s.readByte a))

/-! ### Resets and actions -/

/-- R185 and the reset rules of each chapter: what SOFT_RESET, and RESET_N falling, leave. That the input
pins and the queue stay as they stood is the model's choice (log 5). -/
def Obligations.DeviceResetValues : Prop :=
  ∀ s : State,
    (∀ rest, s.atAction .softReset rest → ∃ t, exec .softReset s = .next t ∧
      afterDeviceReset s t ∧ t.port.resetN = s.port.resetN) ∧
    (s.port.resetN = true → ∃ t, exec .deviceReset s = .next t ∧
      afterDeviceReset s t ∧ t.port.resetN = false)

/-- R69, R165: what device reset makes of the dispatcher, the contexts, the slots, the lists and the
survey, by the pin and by SOFT_RESET. -/
def Obligations.DeviceResetClearsWorkAndSurvey : Prop :=
  ∀ (s : State) (c : Instr),
    (c = .deviceReset ∧ s.port.resetN = true) ∨
      (c = .softReset ∧ ∃ rest, s.atAction .softReset rest) → ∃ t, exec c s = .next t ∧
    t.paused = false ∧ (∀ c, t.ctx c = none) ∧ (∀ k, t.slot k = none) ∧
    (∀ i, (t.seg i).pendingList = [] ∧ (t.seg i).dueList = []) ∧
    t.windowByte 0x021 = 0 ∧ t.windowByte 0x022 = 0 ∧
    t.completion.cq = [] ∧ t.completion.posting = [] ∧
    (∀ n, (t.sv n).setup = none ∧ (t.sv n).consecFails = 0 ∧ (t.sv n).overruns = 0 ∧
      (t.sv n).windowState = .unknown) ∧
    (∀ n, t.mirrorSlot n = ⟨0, .empty, 0, 0, 0⟩) ∧
    (∀ i c, (t.seg i).state ≠ .busy c) ∧ ∀ lt, t.entry lt = ⟨none, 0, 0⟩

/-- R23: the group table at device reset and at engine reset. -/
def Obligations.GroupTableThroughResets : Prop :=
  ∀ (s : State),
    (s.port.resetN = true → ∃ t, exec .deviceReset s = .next t ∧
      ∀ g, look t.groups g = ⟨0, .all⟩) ∧
    (∀ rest, s.atAction .softReset rest → ∃ t, exec .softReset s = .next t ∧
      ∀ g, look t.groups g = ⟨0, .all⟩) ∧
    (∀ rest, s.atAction .engineReset rest → ∃ t, exec .engineReset s = .next t ∧
      t.groups = s.groups)

/-- R18, R42, R70, R98, R130, R146, R166, R167, R176, R186: engine reset empties the RQ, the contexts, the
slots, the posting list, the CQ, the NQ and the pending lists, clears CONSEC_HOST and the alert collectors,
leaves the dispatcher RUNNING, latches RQ_SPACE from a full RQ, and keeps the port, the timebase, the groups, the
settings and every binding that it does not free; DISABLED and FAULTED segments stay so. With no segment
RECOVERING, and transactions in TRANSFER alone, it empties the due lists, frees the DRAINING
entries that no transaction names, leaves one reference per transaction, sends the due and reading survey
entries back to WAITING, and marks the transactions. An IDLE segment has BUS_FREE no; that one whose pending
list was empty stays IDLE, the reset being no grant opportunity of it, is read from R92 (log 20,
DEDUCED). -/
def Obligations.EngineResetEmptiesQueues : Prop :=
  ∀ (s : State) (rest : List Action), s.atAction .engineReset rest →
    ∃ t, exec .engineReset s = .next t ∧ t.rq = [] ∧ (∀ c, t.ctx c = none) ∧ (∀ k, t.slot k = none) ∧
      t.completion = { s.completion with posting := [], cq := [] } ∧ t.paused = false ∧
      t.notices = ⟨[], 0⟩ ∧ t.port = (s.leaving rest).port ∧ t.timebase = s.timebase ∧ t.groups = s.groups ∧
      t.irq.enables = s.irq.enables ∧ t.irq.hostMisuse = s.irq.hostMisuse ∧
      t.irq.rqSpace = (s.irq.rqSpace || s.rq.length == 32) ∧
      (∀ i, (t.seg i).config = (s.seg i).config ∧ (t.seg i).pendingList = [] ∧
        (t.seg i).consecHost = 0 ∧ (t.seg i).alert = ⟨none, 0, 0, false⟩) ∧
      (∀ i, (s.seg i).state = .disabled → (t.seg i).state = .disabled) ∧
      (∀ i r, (s.seg i).state = .faulted r → (t.seg i).state = .faulted r) ∧
      (∀ lt, BindingKept (s.entry lt).binding (t.entry lt).binding) ∧
      ((∀ i, (s.seg i).state = .disabled ∨ (s.seg i).state = .idle ∨
          (∃ r, (s.seg i).state = .faulted r) ∨
          ∃ c, (s.seg i).state = .busy c ∧ c.phase = .transfer) →
        (∀ i, (t.seg i).dueList = []) ∧
        (∀ i c, (s.seg i).state = .busy c → (t.seg i).busFree = false ∧
          (t.seg i).state = .busy { c with stop := { c.stop with reset := true } }) ∧
        (∀ i, (s.seg i).state = .idle → (t.seg i).busFree = false ∧
          ((s.seg i).pendingList = [] → (t.seg i).state = .idle)) ∧
        (∀ lt, let drained := ∃ b, (s.entry lt).binding = some b ∧ b.state = .draining
          (s.inProgress lt → t.entry lt = { s.entry lt with refCount := 1 }) ∧
          (¬ s.inProgress lt → drained → t.entry lt = ⟨none, 0, 0⟩) ∧
          (¬ s.inProgress lt → ¬ drained → t.entry lt = { s.entry lt with refCount := 0 })) ∧
        ∀ n, ((s.sv n).setup = none → t.sv n = s.sv n) ∧
          ∀ c r, (s.sv n).setup = some ⟨c, r⟩ →
            let drained := ∃ b, (s.entry c.lt).binding = some b ∧ b.state = .draining
            (drained → ¬ s.inProgress c.lt →
              t.sv n = { s.sv n with setup := some ⟨c, .orphaned⟩ }) ∧
            (¬ drained ∨ s.inProgress c.lt → t.sv n = { s.sv n with
              setup := some ⟨c, r.whenReset s.timebase.time c.period⟩ }))

/-- R43, R183: PAUSE, and RESUME with its examination; a PAUSED dispatcher admits nothing and fails
nothing; the clears of the latched causes. -/
def Obligations.PauseResumeAndClears : Prop :=
  ∀ (s : State) (rest : List Action),
    (s.atAction .pause rest → exec .pause s = finish { s.leaving rest with paused := true }) ∧
    (s.atAction .resume rest → s.paused = true →
      exec .resume s = finish (examine { s.leaving rest with paused := false })) ∧
    (s.atAction .resume rest → s.paused = false → exec .resume s = finish (s.leaving rest)) ∧
    (s.paused = true → examine s = s) ∧
    (s.atAction .clearRqSpace rest → exec .clearRqSpace s =
      finish { s.leaving rest with irq := { s.irq with rqSpace := false } }) ∧
    (s.atAction .clearHostMisuse rest → exec .clearHostMisuse s =
      finish { s.leaving rest with irq := { s.irq with hostMisuse := false } })

/-- R45, R46, R48 to R51, R53, R54, R57: an examination goes on until the candidate waits or there is none.
A candidate with no live target becomes FINISHED in place: a single-target one with the reason of TABLE 20,
a group one with GROUP_POLICY_FAILED and all its members in FAIL_SET. One with live targets waits while no
context is free or fewer slots than live targets are. Otherwise it is admitted: it leaves the RQ, takes
the free context of lowest index and, for its live targets in member order, the free slots of lowest index,
each PENDING, listed and counted in REF_COUNT, and each segment that received a slot looks for work. -/
def Obligations.ExaminationOfCandidate : Prop :=
  (∀ s : State, examineOnce (examine s) = none) ∧
  (∀ s t : State, examineOnce s = some t → examine s = examine t) ∧
  (∀ s : State, candidate s = none → examineOnce s = none) ∧
  ∀ (s : State) (e : RqEntry), candidate s = some e → TagLaw s →
    let r := e.request
    let live := s.liveTargets r
    let free := (List.finRange 24).filter fun k => (s.slot k).isNone
    (live = [] →
      (∀ n o, r.target = .lt n → resolve s r.kind n = .failed o →
        examineOnce s = some (finishQueued r.tag ⟨.of o, s.timebase.time, none⟩ s)) ∧
      ∀ g, r.target = .group g → examineOnce s = some (finishQueued r.tag
        ⟨.groupPolicyFailed, s.timebase.time, some (look s.groups g).members⟩ s)) ∧
    (live ≠ [] → (∀ c, s.ctx c ≠ none) ∨ free.length < live.length → examineOnce s = none) ∧
    ∀ c, live ≠ [] → live.length ≤ free.length → s.ctx c = none → (∀ d < c, s.ctx d ≠ none) →
      ∃ (u : State) (l1 l2 : List RqEntry), s.rq = l1 ++ e :: l2 ∧
        u = { s with
          rq := l1 ++ l2
          irq := { s.irq with rqSpace := s.irq.rqSpace || s.rq.length == 32 }
          contexts := put s.contexts c (some
            { request := r, acceptTime := e.acceptTime, deadlineTime := e.deadlineTime
              outstanding := live.length
              members := (s.named r).map fun n => match resolve s r.kind n with
                | .live _ _ => ⟨n, none, 0, 0⟩
                | .failed o => ⟨n, some o, 0, 0⟩
              result := none, cancelRequested := false
              policy := match r.target with
                | .lt _ => none
                | .group g => some (look s.groups g).policy
              deadlinePassed := e.deadlineTime.map fun _ => false
              finish := none })
          slots := u.slots, map := u.map, segs := u.segs } ∧
        (∀ k o, s.slot k = some o → u.slot k = some o) ∧
        (∀ (j : Nat) k, free[j]? = some k →
          (live.length ≤ j → u.slot k = none) ∧
          ∀ n m b, live[j]? = some (n, m) → (s.entry n).binding = some b →
            u.slot k = some ⟨.pending, c, m, n, b.segment, b.address, r.kind, r.priority, 0, 0⟩) ∧
        (∀ n, u.entry n = { s.entry n with
          refCount := (s.entry n).refCount + if n ∈ live.map (·.1) then 1 else 0 }) ∧
        (∀ i, u.seg i = { s.seg i with pendingList := (u.seg i).pendingList } ∧
          (s.seg i).pendingList.Sublist (u.seg i).pendingList ∧
          ∀ k, k ∈ (u.seg i).pendingList ↔ k ∈ (s.seg i).pendingList ∨
            ∃ (j : Nat) (n : LtId) (m : Nat) (b : Binding), free[j]? = some k ∧
              live[j]? = some (n, m) ∧ (s.entry n).binding = some b ∧ b.segment = i) ∧
        examineOnce s = some ((List.finRange 4).foldl (fun t i =>
          if live.any fun p => (s.entry p.1).binding.map (·.segment) == some i then arbitrate i t
          else t) u)

/-- R44: the candidate of a RUNNING dispatcher is the oldest QUEUED URGENT entry, or with none the oldest
QUEUED NORMAL one. -/
def Obligations.CandidateRule : Prop :=
  ∀ (s : State) (e : RqEntry), s.paused = false →
    (candidate s = some e ↔
      ∃ l1 l2, s.rq = l1 ++ e :: l2 ∧ e.queued = true ∧
        (∀ x ∈ l1, x.queued = true → x.request.priority ≠ e.request.priority) ∧
        (e.request.priority = .normal →
          ∀ x ∈ s.rq, x.queued = true → x.request.priority ≠ .urgent))

/-- R47, TABLE 20: the resolution of one target. -/
def Obligations.ResolutionTable : Prop :=
  ∀ (s : State) (kind : Kind) (lt : LtId),
    ((s.entry lt).binding = none → resolve s kind lt = .failed .targetRetired) ∧
    ∀ b, (s.entry lt).binding = some b →
      (b.state = .draining → resolve s kind lt = .failed .targetRetired) ∧
      (b.state = .isolated → kind ≠ .probe → resolve s kind lt = .failed .targetIsolated) ∧
      (b.state = .active ∨ b.state = .isolated ∧ kind = .probe →
        ((s.seg b.segment).state = .disabled → resolve s kind lt = .failed .segmentDisabled) ∧
        (∀ r, (s.seg b.segment).state = .faulted r → resolve s kind lt = .failed .segmentFaulted) ∧
        ((s.seg b.segment).state ≠ .disabled → (∀ r, (s.seg b.segment).state ≠ .faulted r) →
          resolve s kind lt = .live b.segment b.address))

/-- R61, R62: where admission places an operation in the pending list of its segment. -/
def Obligations.PlacementOfOperations : Prop :=
  ∀ (c : CtxId) (r : Request) (t : LiveTarget) (k : SlotId) (s u : State),
    u = placeSlot c r t k s → k ∉ (s.seg t.seg).pendingList →
      (∀ j, j ≠ t.seg → (u.seg j).pendingList = (s.seg j).pendingList) ∧
      (r.priority = .normal →
        (u.seg t.seg).pendingList = (s.seg t.seg).pendingList ++ [k]) ∧
      (r.priority = .urgent →
        (∀ l1 y l2 o, (s.seg t.seg).pendingList = l1 ++ y :: l2 → s.slot y = some o →
          (o.priority = .urgent ∨ o.lt = t.lt) →
          (∀ z ∈ l2, ∀ p, s.slot z = some p → p.priority ≠ .urgent ∧ p.lt ≠ t.lt) →
          (u.seg t.seg).pendingList = l1 ++ y :: k :: l2) ∧
        ((∀ z ∈ (s.seg t.seg).pendingList, ∀ p, s.slot z = some p →
            p.priority ≠ .urgent ∧ p.lt ≠ t.lt) →
          (u.seg t.seg).pendingList = k :: (s.seg t.seg).pendingList))

/-- R29 step 1, TABLE 13, TABLE 73: the staging area reads as a request exactly when every field holds one
of its values, and as which. -/
def Obligations.StagedRequestFields : Prop :=
  ∀ (p : HostPort),
    ((∃ r, stagedRequest? p = some r) ↔
      1 ≤ (look p.staging 1).toNat ∧ (look p.staging 1).toNat ≤ 5 ∧
      ((look p.staging 2).toNat = 0 ∧ (look p.staging 3).toNat ≤ 63 ∨
        (look p.staging 2).toNat = 1 ∧ (look p.staging 3).toNat ≤ 7) ∧
      (look p.staging 4).toNat ≤ 1 ∧ (look p.staging 5).toNat ≤ 7 ∧
      (look p.staging 8).toNat ≤ 32 ∧ (look p.staging 9).toNat ≤ 32) ∧
    ∀ r : Request, stagedRequest? p = some r →
      r.tag = look p.staging 0 ∧ r.kind.code = look p.staging 1 ∧
      (look p.staging 2).toNat = (if r.isGroup then 1 else 0) ∧
      (∀ n, r.target = .lt n → (look p.staging 3).toNat = n.val) ∧
      (∀ g, r.target = .group g → (look p.staging 3).toNat = g.val) ∧
      (look p.staging 4).toNat = (if r.priority = .urgent then 1 else 0) ∧
      (look p.staging 5).toNat = r.retryBudget ∧ r.retryBudget ≤ 7 ∧
      r.deadline.toNat = (look p.staging 6).toNat + 256 * (look p.staging 7).toNat ∧
      (look p.staging 8).toNat = r.writeData.length ∧ r.writeData.length ≤ 32 ∧
      (look p.staging 9).toNat = r.readLength ∧ r.readLength ≤ 32 ∧
      ∀ (k : Nat) (h : k < r.writeData.length) (h' : 10 + k < 42),
        r.writeData[k] = look p.staging ⟨10 + k, h'⟩

/-- R28 to R34: the checks of a submission in their order, the report of a refusal, and the acceptance,
which joins the RQ tail and is handed to the dispatcher. -/
def Obligations.SubmitByCheck : Prop :=
  ∀ (s : State) (rest : List Action), s.atAction .submit rest →
    let refused (code : SubmitResult) : State := { s with port := { s.port with
      actions := rest, submitResult := code, submitCount := s.rq.length } }
    (stagedRequest? s.port = none → exec .submit s = finish (refused .badFormat)) ∧
    ∀ r, stagedRequest? s.port = some r →
      (r.isGroup = true → r.kind ≠ .write → r.kind ≠ .probe →
        exec .submit s = finish (refused .groupKind)) ∧
      ((r.isGroup = true → r.kind = .write ∨ r.kind = .probe) →
        (¬ r.lengthsMatch → exec .submit s = finish (refused .badFormat)) ∧
        (r.lengthsMatch → s.refusesTarget r.target →
          exec .submit s = finish (refused .unknownTarget)) ∧
        (r.lengthsMatch → ¬ s.refusesTarget r.target → s.holdsTag r.tag →
          exec .submit s = finish (refused .tagInUse)) ∧
        (r.lengthsMatch → ¬ s.refusesTarget r.target → ¬ s.holdsTag r.tag → 32 ≤ s.rq.length →
          exec .submit s = finish (refused .queueFull)) ∧
        (r.lengthsMatch → ¬ s.refusesTarget r.target → ¬ s.holdsTag r.tag → s.rq.length < 32 →
          exec .submit s = finish (examine { s with
            port := { s.port with
              actions := rest, submitResult := .accepted, submitCount := s.rq.length + 1 }
            rq := s.rq ++ [⟨r, s.timebase.time,
              if r.deadline = 0 then none else some (s.timebase.time + r.deadline), none⟩] })))

/-- R139, R175, R180: a POP takes the head; on an empty queue it latches HOST_MISUSE. -/
def Obligations.PopsTakeHeads : Prop :=
  ∀ (s : State) (rest : List Action),
    (s.atAction .cqPop rest → s.completion.cq = [] →
      exec .cqPop s = finish { s.leaving rest with irq := { s.irq with hostMisuse := true } }) ∧
    (∀ h q, s.atAction .cqPop rest → s.completion.cq = h :: q →
      exec .cqPop s = finish (examine (postAll { s.leaving rest with
        completion := { s.completion with cq := q } }))) ∧
    (∀ h q, s.atAction .cqPop rest → s.completion.cq = h :: q → s.completion.posting = [] →
      s.noneQueued → exec .cqPop s = finish { s.leaving rest with
        completion := { s.completion with cq := q } }) ∧
    (s.atAction .nqPop rest → s.notices.nq = [] →
      exec .nqPop s = finish { s.leaving rest with irq := { s.irq with hostMisuse := true } }) ∧
    (∀ h q, s.atAction .nqPop rest → s.notices.nq = h :: q → exec .nqPop s =
      finish { s.leaving rest with notices := { s.notices with nq := q } })

/-- R38, R56, R68, R134, R135, R137: posting goes on from the head of the list until it is empty or the CQ
holds 32 records; what was in the CQ stays before what joined. A FINISHED entry or context at the head is
taken: its record joins the CQ with AGE 0 and it is freed, so it holds its tag no more. An entry that
finishes in the RQ, and a context whose operations have all ended, join the list and posting follows. -/
def Obligations.PostingMakesRecords : Prop :=
  (∀ s : State,
    ((postAll s).completion.posting = [] ∨ 32 ≤ (postAll s).completion.cq.length) ∧
    (∃ l, (postAll s).completion.cq = s.completion.cq ++ l ∧ (∀ x ∈ l, x.age = 0)) ∧
    (∃ l, s.completion.posting = l ++ (postAll s).completion.posting) ∧
    (heldTags (postAll s)).Subperm (heldTags s) ∧
    (s.completion.posting = [] ∨ 32 ≤ s.completion.cq.length → postAll s = s)) ∧
  (∀ (s : State) (e : RqEntry) (f : RqFinish) (rest : List PostItem), TagLaw s → e ∈ s.rq →
    e.finish = some f → s.completion.posting = .entry e.request.tag :: rest →
    s.completion.cq.length < 32 →
    ∃ l1 l2, s.rq = l1 ++ e :: l2 ∧ postAll s = postAll { s with
      rq := l1 ++ l2
      irq := { s.irq with rqSpace := s.irq.rqSpace || s.rq.length == 32 }
      completion := { s.completion with
        posting := rest
        cq := s.completion.cq ++ [⟨{
          tag := e.request.tag, status := f.status, kind := e.request.kind
          target := e.request.target, attempts := 0, finishTime := f.finishTime, result := none
          bytesAcked := if e.request.kind = .write ∨ e.request.kind = .writeRead then some 0 else none
          successSet := if e.request.isGroup then some 0 else none
          failSet := if e.request.isGroup then some (f.failSet.getD 0) else none }, 0⟩] } }) ∧
  (∀ (s : State) (c : CtxId) (x : Context) (f : CtxFinish) (rest : List PostItem),
    s.ctx c = some x → x.finish = some f → s.completion.posting = .context c :: rest →
    s.completion.cq.length < 32 →
    ∃ r : CompletionRecord, postAll s = postAll (({ s with completion := { s.completion with
        posting := rest, cq := s.completion.cq ++ [⟨r, 0⟩] } } : State).putCtx c none) ∧
      r.tag = x.request.tag ∧ r.status = f.status ∧ r.kind = x.request.kind ∧
      r.target = x.request.target ∧ r.finishTime = f.finishTime ∧ r.result = x.result ∧
      r.bytesAcked = f.bytesAcked ∧ (∀ m ∈ x.members, m.attempts ≤ r.attempts) ∧
      (r.attempts = 0 ∨ ∃ m ∈ x.members, m.attempts = r.attempts) ∧
      (x.request.isGroup = false → r.successSet = none ∧ r.failSet = none) ∧
      (x.request.isGroup = true → ∃ a b, r.successSet = some a ∧ r.failSet = some b ∧
        ∀ n : LtId,
          (a.getLsbD n.val = true ↔ ∃ m ∈ x.members, m.lt = n ∧ m.outcome = some .done) ∧
          (b.getLsbD n.val = true ↔ ∃ m ∈ x.members, m.lt = n ∧ m.outcome ≠ some .done))) ∧
  (∀ (s : State) (e : RqEntry) (f : RqFinish), TagLaw s → e ∈ s.rq → e.finish = none →
    ∃ l1 l2, s.rq = l1 ++ e :: l2 ∧ finishQueued e.request.tag f s = postAll { s with
      rq := l1 ++ { e with finish := some f } :: l2
      completion := { s.completion with
        posting := s.completion.posting ++ [.entry e.request.tag] } }) ∧
  ∀ (s : State) (c : CtxId) (x : Context), ∃ acked : Option Nat,
    finishContext c x s = postAll (({ s with completion := { s.completion with
      posting := s.completion.posting ++ [.context c] } } : State).putCtx c (some { x with
        finish := some ⟨contextStatus x, s.timebase.time, acked⟩ })) ∧
    (x.request.kind ≠ .write → x.request.kind ≠ .writeRead → acked = none) ∧
    (x.request.kind = .write ∨ x.request.kind = .writeRead →
      (∀ m, x.request.isGroup = false → x.members = [m] → acked = some m.bytesAcked) ∧
      (x.request.isGroup = true → ∃ k, acked = some k ∧
        ((∀ m ∈ x.members, m.attempts = 0) → k = 0) ∧
        (∀ m ∈ x.members, 1 ≤ m.attempts → k ≤ m.bytesAcked) ∧
        ((∃ m ∈ x.members, 1 ≤ m.attempts) →
          ∃ m ∈ x.members, 1 ≤ m.attempts ∧ m.bytesAcked = k)))

/-! ### Control commands -/

/-- R4, TABLE 7: MAP_SET. -/
def Obligations.MapSetChecks : Prop :=
  ∀ (s : State) (rest : List Action), s.atCommand 0x01 rest →
    let u := s.leaving rest
    (63 < (s.arg 0).toNat ∨ 3 < (s.arg 1).toNat ∨ (s.arg 2).toNat < 0x08 ∨ 0x77 < (s.arg 2).toNat ∨
      15 < (s.arg 3).toNat ∨ 1 < (s.arg 4).toNat → exec .mapSet s = finish (u.answered .badArgument)) ∧
    ∀ (lt : LtId) (seg : SegId) (addr : BusAddr) (auto : Bool),
      (s.arg 0).toNat = lt.val → (s.arg 1).toNat = seg.val → (s.arg 2).toNat = addr.toNat →
      inBusRange addr → (s.arg 3).toNat ≤ 15 → (s.arg 4).toNat = (if auto then 1 else 0) →
      let bad := addr = (s.seg seg).config.alertAddress
      (bad → exec .mapSet s = finish (u.answered .badArgument)) ∧
      (¬ bad → (s.entry lt).binding ≠ none → exec .mapSet s = finish (u.answered .inUse)) ∧
      (¬ bad → (s.entry lt).binding = none → s.bound seg addr →
        exec .mapSet s = finish (u.answered .conflict)) ∧
      (¬ bad → (s.entry lt).binding = none → ¬ s.bound seg addr →
        exec .mapSet s = finish ((examine (u.putEntry lt
          ⟨some ⟨.active, seg, addr, (s.arg 3).toNat, auto⟩, 0, 0⟩)).answered .done))

/-- R6, R7, R8, R174, TABLE 8, TABLE 10: MAP_RETIRE, the survey entries that name the LT, and the retirement
that completes when a DRAINING entry loses its last reference. TARGET_RETIRED joins the NQ, or, the NQ holding
16 records, is discarded and counted in DROPPED, and everything else stands (`State.withNotice`). -/
def Obligations.MapRetireByState : Prop :=
  (∀ (s : State) (rest : List Action), s.atCommand 0x02 rest →
    let u := s.leaving rest
    (63 < (s.arg 0).toNat → exec .mapRetire s = finish (u.answered .badArgument)) ∧
    ∀ lt : LtId, (s.arg 0).toNat = lt.val →
      ((s.entry lt).binding = none → exec .mapRetire s = finish (u.answered .notSet)) ∧
      ∀ b, (s.entry lt).binding = some b →
        (b.state = .draining → exec .mapRetire s = finish (u.answered .accepted)) ∧
        (b.state ≠ .draining → (s.entry lt).refCount = 0 →
          ∃ v, u.surveyMoved v b.segment (fun c r => if c.lt = lt then .orphaned else r)
              (fun c _ => c.lt == lt) ∧
            exec .mapRetire s = finish ((examine ((v.putEntry lt ⟨none, 0, 0⟩).withNotice
              (.targetRetired lt b.segment b.address))).answered .done)) ∧
        (b.state ≠ .draining → (s.entry lt).refCount ≠ 0 →
          ∃ v, u.surveyMoved v b.segment (fun c r => if c.lt = lt then r.whenRetired else r)
              (fun c r => c.lt == lt && !r.isReading) ∧
            exec .mapRetire s = finish ((examine (v.putEntry lt { s.entry lt with
              binding := some { b with state := .draining } })).answered .accepted))) ∧
  ∀ (s : State) (lt : LtId) (b : Binding), (s.entry lt).binding = some b →
    (b.state = .draining → (s.entry lt).refCount = 1 →
      ∃ v, s.surveyMoved v b.segment (fun c r => if c.lt = lt then .orphaned else r)
          (fun c _ => c.lt == lt) ∧
        releaseRef lt s = (v.putEntry lt ⟨none, 0, 0⟩).withNotice
          (.targetRetired lt b.segment b.address)) ∧
    (b.state ≠ .draining ∨ (s.entry lt).refCount ≠ 1 → releaseRef lt s = s.putEntry lt
      { s.entry lt with refCount := (s.entry lt).refCount - 1 })

/-- R14, TABLE 10: MAP_REINSTATE. The HELD survey entries of the LT fall due now where its segment is IDLE or
BUSY, and stay HELD where it is neither. On an IDLE segment the due list's growth is a grant opportunity; that
the dispatcher's examination comes before it is the model's choice (log 26). -/
def Obligations.MapReinstateByState : Prop :=
  ∀ (s : State) (rest : List Action), s.atCommand 0x03 rest →
    let u := s.leaving rest
    (63 < (s.arg 0).toNat → exec .mapReinstate s = finish (u.answered .badArgument)) ∧
    ∀ lt : LtId, (s.arg 0).toNat = lt.val →
      ((∀ b, (s.entry lt).binding = some b → b.state ≠ .isolated) →
        exec .mapReinstate s = finish (u.answered .notIsolated)) ∧
      ∀ b, (s.entry lt).binding = some b → b.state = .isolated →
        let v := u.putEntry lt ⟨some { b with state := .active }, 0, (s.entry lt).refCount⟩
        ((∀ n c, (s.sv n).setup = some ⟨c, .held⟩ → c.lt ≠ lt) →
          exec .mapReinstate s = finish ((examine v).answered .done)) ∧
        ((s.seg b.segment).state ≠ .idle → (∀ c, (s.seg b.segment).state ≠ .busy c) →
          exec .mapReinstate s = finish ((examine v).answered .done)) ∧
        (∀ cur, (s.seg b.segment).state = .busy cur →
          ∃ w, v.released w b.segment (· == lt) ∧ exec .mapReinstate s = finish ((examine w).answered .done)) ∧
        ∀ n c, (s.seg b.segment).state = .idle → (s.sv n).setup = some ⟨c, .held⟩ → c.lt = lt →
          ∃ w, v.released w b.segment (· == lt) ∧
            exec .mapReinstate s = finish ((opportunity b.segment (examine w)).answered .done)

/-- R17, R22, R152, TABLE 76: the three reads write their copy from offset 1 on, the index argument and
the offsets beyond the copy staying as they were, and change nothing else but COMMAND_RESULT. -/
def Obligations.CopiesOfTables : Prop :=
  ∀ (s : State) (rest : List Action),
    (∀ lt : LtId, s.atCommand 0x04 rest → (s.arg 0).toNat = lt.val → ∃ a : Vector Byte 60,
      exec .mapRead s = finish { s with port := { s.port with
        actions := rest, args := a, commandResult := .done } } ∧
      look a 0 = s.arg 0 ∧ look a 6 = BitVec.ofNat 8 (s.entry lt).failCount ∧
      look a 7 = BitVec.ofNat 8 (s.entry lt).refCount ∧
      (∀ k : Fin 60, 8 ≤ k.val → look a k = s.arg k) ∧
      ((s.entry lt).binding = none → ∀ k : Fin 60, 1 ≤ k.val → k.val ≤ 5 → look a k = 0) ∧
      ∀ b, (s.entry lt).binding = some b → look a 1 = boundCode b.state ∧
        look a 2 = BitVec.ofNat 8 b.segment.val ∧
        look a 3 = BitVec.ofNat 8 b.address.toNat ∧ look a 4 = BitVec.ofNat 8 b.threshold ∧
        look a 5 = (if b.autoReinstate then 1 else 0)) ∧
    (∀ g : GroupId, s.atCommand 0x06 rest → (s.arg 0).toNat = g.val → ∃ a : Vector Byte 60,
      exec .groupRead s = finish { s with port := { s.port with
        actions := rest, args := a, commandResult := .done } } ∧ look a 0 = s.arg 0 ∧
      shows64 (look s.groups g).members (copied a) 1 ∧
      (∀ k : Fin 60, 11 ≤ k.val → look a k = s.arg k) ∧
      ((look s.groups g).policy = .all → look a 9 = 0 ∧ look a 10 = 0) ∧
      ((look s.groups g).policy = .any → look a 9 = 1 ∧ look a 10 = 0) ∧
      ∀ q, (look s.groups g).policy = .quorum q → look a 9 = 2 ∧ look a 10 = BitVec.ofNat 8 q) ∧
    (∀ n : SvId, s.atCommand 0x0F rest → (s.arg 0).toNat = n.val → ∃ a : Vector Byte 60,
      exec .surveyRead s = finish { s with port := { s.port with
        actions := rest, args := a, commandResult := .done } } ∧ look a 0 = s.arg 0 ∧
      look a 40 = BitVec.ofNat 8 (s.sv n).consecFails ∧ look a 41 = BitVec.ofNat 8 (s.sv n).overruns ∧
      look a 42 = windowCode (s.sv n).windowState ∧ (∀ k : Fin 60, 43 ≤ k.val → look a k = s.arg k) ∧
      ((s.sv n).setup = none → ∀ k : Fin 60, 1 ≤ k.val → k.val ≤ 39 → look a k = 0) ∧
      ∀ c r, (s.sv n).setup = some ⟨c, r⟩ → look a 1 = BitVec.ofNat 8 c.lt.val ∧
        look a 2 = (if c.selector = none then 0 else 1) ∧ look a 3 = c.selector.getD 0 ∧
        look a 4 = BitVec.ofNat 8 c.length ∧ shows16 c.period (look a 5) (look a 6) ∧
        shows16 c.startOffset (look a 7) (look a 8) ∧ modeShows c.mode (copied a) ∧
        look a 34 = BitVec.ofNat 8 c.failThreshold ∧
        look a 35 = (if c.notifyFirst then 1 else 0) ∧ runShows r (copied a)) ∧
    (s.atCommand 0x04 rest → 63 < (s.arg 0).toNat →
      exec .mapRead s = finish ((s.leaving rest).answered .badArgument)) ∧
    (s.atCommand 0x06 rest → 7 < (s.arg 0).toNat →
      exec .groupRead s = finish ((s.leaving rest).answered .badArgument)) ∧
    (s.atCommand 0x0F rest → 31 < (s.arg 0).toNat →
      exec .surveyRead s = finish ((s.leaving rest).answered .badArgument))

/-- R20: GROUP_SET. -/
def Obligations.GroupSetChecks : Prop :=
  ∀ (s : State) (rest : List Action), s.atCommand 0x05 rest →
    let u := s.leaving rest
    let m := s.argMask 1
    let size := ((List.finRange 64).filter fun n => m.getLsbD n.val).length
    (7 < (s.arg 0).toNat ∨ 2 < (s.arg 9).toNat ∨ 16 < size ∨
      ((s.arg 9).toNat = 2 ∧ ((s.arg 10).toNat = 0 ∨ size < (s.arg 10).toNat)) →
      exec .groupSet s = finish (u.answered .badArgument)) ∧
    ∀ g : GroupId, (s.arg 0).toNat = g.val → size ≤ 16 →
      ((s.arg 9).toNat = 0 → exec .groupSet s =
        finish ((examine { u with groups := put s.groups g ⟨m, .all⟩ }).answered .done)) ∧
      ((s.arg 9).toNat = 1 → exec .groupSet s =
        finish ((examine { u with groups := put s.groups g ⟨m, .any⟩ }).answered .done)) ∧
      ((s.arg 9).toNat = 2 → 1 ≤ (s.arg 10).toNat → (s.arg 10).toNat ≤ size →
        let x : Group := ⟨m, .quorum (s.arg 10).toNat⟩
        exec .groupSet s = finish ((examine { u with groups := put s.groups g x }).answered .done))

/-- R74: SEGMENT_CONFIG. -/
def Obligations.SegmentConfigChecks : Prop :=
  ∀ (s : State) (rest : List Action), s.atCommand 0x07 rest →
    let u := s.leaving rest
    (3 < (s.arg 0).toNat ∨ 2 < (s.arg 1).toNat ∨ s.arg 2 = 0 ∨ s.arg 3 = 0 ∨ s.arg 4 = 0 ∨
      s.arg 6 = 0 ∨ 8 < (s.arg 6).toNat ∨ (s.arg 7).toNat < 0x08 ∨ 0x77 < (s.arg 7).toNat ∨
      1 < (s.arg 8).toNat → exec .segmentConfig s = finish (u.answered .badArgument)) ∧
    ∀ (i : SegId) (speed : Speed) (addr : BusAddr) (enable : Bool),
      (s.arg 0).toNat = i.val →
      (s.arg 1).toNat = (match speed with | .standard => 0 | .fast => 1 | .fastPlus => 2) →
      s.arg 2 ≠ 0 → s.arg 3 ≠ 0 → s.arg 4 ≠ 0 → s.arg 6 ≠ 0 → (s.arg 6).toNat ≤ 8 →
      (s.arg 7).toNat = addr.toNat → inBusRange addr → (s.arg 8).toNat = (if enable then 1 else 0) →
      ((s.seg i).state ≠ .disabled → exec .segmentConfig s = finish (u.answered .inUse)) ∧
      ((s.seg i).state = .disabled → s.bound i addr →
        exec .segmentConfig s = finish (u.answered .conflict)) ∧
      ((s.seg i).state = .disabled → ¬ s.bound i addr →
        exec .segmentConfig s = finish ((u.putSeg i { s.seg i with
          config := ⟨speed, (s.arg 2).toNat, (s.arg 3).toNat, (s.arg 4).toNat, (s.arg 5).toNat,
            (s.arg 6).toNat, addr, enable⟩ }).answered .done))

/-- R75: SEGMENT_ENABLE, where no request is queued. The HELD survey entries of the segment whose LT is ACTIVE
fall due now, and the arbiter looks for work; spelled out where none is HELD and no work waits, and with a line
held low, which sends the enabled segment to RECOVERING (R120). -/
def Obligations.SegmentEnableStarts : Prop :=
  ∀ (s : State) (rest : List Action), s.atCommand 0x08 rest →
    let u := s.leaving rest
    (3 < (s.arg 0).toNat → exec .segmentEnable s = finish (u.answered .badArgument)) ∧
    ∀ i : SegId, (s.arg 0).toNat = i.val →
      let on : Segment := { s.seg i with
        state := .idle, consecHost := 0, busFree := false, alert := ⟨none, 0, 0, false⟩ }
      ((s.seg i).state ≠ .disabled → exec .segmentEnable s = finish (u.answered .inUse)) ∧
      ((s.seg i).state = .disabled → s.noneQueued →
        ∃ w, (u.putSeg i on).released w i (s.activeOn i) ∧
          exec .segmentEnable s = finish ((arbitrate i w).answered .done)) ∧
      ((s.seg i).state = .disabled → s.noneQueued →
        (∀ n, s.svSeg n = some i → s.svRun n ≠ some .held) →
        ((s.seg i).linesFree → on.noWork →
          exec .segmentEnable s = finish ((u.putSeg i on).answered .done)) ∧
        (¬ (s.seg i).linesFree → exec .segmentEnable s =
          finish ((u.putSeg i { on with state := .recovering ⟨0, .check, none⟩ }).answered .done)))

/-- R127, R128, TABLE 50: SEGMENT_DISABLE. Its completion holds the survey entries of the segment and ends
its listed operations with SEGMENT_DISABLED, spelled out with nothing listed, and with one operation
listed. A transaction in WAIT_FREE ends ABORTED at once and the disable completes at its end, spelled out with
nothing listed: a survey entry that was READING is held, an alert query's response is not used, and the slot of
a host attempt ends SEGMENT_DISABLED (R89 to R91). -/
def Obligations.SegmentDisableByState : Prop :=
  ∀ (s : State) (rest : List Action), s.atCommand 0x09 rest →
    let u := s.leaving rest
    (3 < (s.arg 0).toNat → exec .segmentDisable s = finish (u.answered .badArgument)) ∧
    ∀ i : SegId, (s.arg 0).toNat = i.val →
      let off (t : State) : Prop :=
        ∃ v, t.disables i v ∧ exec .segmentDisable s = finish (v.answered .done)
      ((s.seg i).state = .disabled → exec .segmentDisable s = finish (u.answered .done)) ∧
      (∀ c, (s.seg i).state = .busy c → c.phase ≠ .waitFree → exec .segmentDisable s =
        finish ((u.inState i (.busy { c with stop := { c.stop with disable := true } })).answered .done)) ∧
      ((s.seg i).state ≠ .disabled → (∀ c, (s.seg i).state ≠ .busy c) → s.noneQueued →
        ((s.seg i).pendingList = [] → off u) ∧
        ∀ k o c x b, (s.seg i).pendingList = [k] → s.carries k o c x → o.segment = i →
          (∀ m, o.state ≠ .active m) → (s.entry o.lt).binding = some b → b.state ≠ .draining →
          s.postingOpen → off (u.opEnded k o c x .segmentDisabled)) ∧
      ∀ cur, (s.seg i).state = .busy cur → cur.phase = .waitFree → cur.stop = ⟨false, false, false⟩ →
        (s.seg i).pendingList = [] → s.noneQueued →
        let e (lt : LtId) : MapEntry := { s.entry lt with refCount := (s.entry lt).refCount - 1 }
        (cur.work = .alert → cur.lt = none → off u) ∧
        (∀ n lt b, cur.work = .survey n → cur.lt = some lt → (s.entry lt).binding = some b →
          b.state ≠ .draining ∨ (s.entry lt).refCount ≠ 1 → off (u.putEntry lt (e lt))) ∧
        ∀ k o c x b, cur.work = .host k o.kind → cur.lt = some o.lt → s.carries k o c x →
          o.segment = i → (s.entry o.lt).binding = some b → b.state ≠ .draining → s.postingOpen →
          off (u.attemptEnded k o c x (e o.lt) (.of .segmentDisabled) x.result 0)

/-- R126, R172: SEGMENT_CLEAR, which sends a FAULTED segment to RECOVERING (that BUS_FREE is no then, as in
every segment that enters RECOVERING, is the model's choice: log 12, DESIGN CHOICE); and ALERT_RESUME, which
clears the collector and on an IDLE segment with its input asserted is the grant of an alert query (R92, R94,
R169). -/
def Obligations.SegmentClearAndAlertResume : Prop :=
  (∀ (s : State) (rest : List Action), s.atCommand 0x0A rest →
    let u := s.leaving rest
    (3 < (s.arg 0).toNat → exec .segmentClear s = finish (u.answered .badArgument)) ∧
    ∀ i : SegId, (s.arg 0).toNat = i.val →
      ((∀ r, (s.seg i).state ≠ .faulted r) → exec .segmentClear s = finish (u.answered .notFaulted)) ∧
      (∀ r, (s.seg i).state = .faulted r → exec .segmentClear s = finish ((examine
        (u.putSeg i { s.seg i with
          state := .recovering ⟨0, .clear, none⟩, busFree := false })).answered .done))) ∧
  ∀ (s : State) (rest : List Action), s.atCommand 0x0B rest →
    let u := s.leaving rest
    (3 < (s.arg 0).toNat → exec .alertResume s = finish (u.answered .badArgument)) ∧
    ∀ i : SegId, (s.arg 0).toNat = i.val →
      ((s.seg i).state ≠ .idle → exec .alertResume s =
        finish ((u.putSeg i { s.seg i with alert := ⟨none, 0, 0, false⟩ }).answered .done)) ∧
      ((s.seg i).state = .idle → (s.seg i).linesFree → (s.seg i).config.alertEnable = true →
        (s.seg i).alertLow = true → (s.seg i).busFree = false → s.noneQueued →
        exec .alertResume s = finish ((u.putSeg i { s.seg i with
          alert := ⟨none, 0, 0, false⟩
          consecHost := if (s.seg i).dueList = [] then 0 else (s.seg i).consecHost
          state := .busy ⟨.alert, none, [.addressRead (s.seg i).config.alertAddress, .read false],
            .waitFree, ⟨false, false, false⟩⟩ }).answered .done))

/-- R149: SURVEY_SET. -/
def Obligations.SurveySetChecks : Prop :=
  ∀ (s : State) (rest : List Action), s.atCommand 0x0C rest →
    let u := s.leaving rest
    (31 < (s.arg 0).toNat ∨ 63 < (s.arg 1).toNat ∨ 1 < (s.arg 2).toNat ∨ 1 < (s.arg 35).toNat ∨
      s.arg 4 = 0 ∨ 8 < (s.arg 4).toNat ∨ s.argWord 5 = 0 ∨ 2 < (s.arg 9).toNat ∨ s.arg 34 = 0 ∨
      15 < (s.arg 34).toNat ∨
      ((s.arg 9).toNat = 2 ∧ (s.argMask 26).toNat < (s.argMask 18).toNat) →
      exec .surveySet s = finish (u.answered .badArgument)) ∧
    ∀ (n : SvId) (lt : LtId) (present first : Bool) (mode : SurveyMode),
      (s.arg 0).toNat = n.val → (s.arg 1).toNat = lt.val →
      (s.arg 2).toNat = (if present then 1 else 0) → (s.arg 35).toNat = (if first then 1 else 0) →
      s.arg 4 ≠ 0 → (s.arg 4).toNat ≤ 8 → s.argWord 5 ≠ 0 → s.arg 34 ≠ 0 → (s.arg 34).toNat ≤ 15 →
      (match mode with
        | .none => (s.arg 9).toNat = 0
        | .change k => (s.arg 9).toNat = 1 ∧ k = s.argMask 10
        | .window lo hi => (s.arg 9).toNat = 2 ∧ lo = s.argMask 18 ∧ hi = s.argMask 26 ∧
            lo.toNat ≤ hi.toNat) →
      (s.started n → exec .surveySet s = finish (u.answered .inUse)) ∧
      (¬ s.started n → (s.entry lt).binding = none →
        exec .surveySet s = finish (u.answered .badArgument)) ∧
      (¬ s.started n → (s.entry lt).binding ≠ none →
        let c : SurveyConf := ⟨lt, if present then some (s.arg 3) else none, (s.arg 4).toNat,
          s.argWord 5, s.argWord 7, mode, (s.arg 34).toNat, first⟩
        exec .surveySet s = finish (((u.putSv n ⟨some ⟨c, .stopped⟩, 0, 0, .unknown⟩).putMirror n
          ⟨0, .empty, 0, 0, 0⟩).answered .done))

/-- R150, R153: SURVEY_START of an entry by its LT and its segment; an entry whose due time has not come is
WAITING, and one with START_OFFSET 0 falls due within the command: it joins the due list by DUE_TIME and entry
number, a grant opportunity of an IDLE segment (R92). -/
def Obligations.SurveyStartByTarget : Prop :=
  ∀ (s : State) (rest : List Action), s.atCommand 0x0D rest →
    let u := s.leaving rest
    (31 < (s.arg 0).toNat → exec .surveyStart s = finish (u.answered .badArgument)) ∧
    ∀ n : SvId, (s.arg 0).toNat = n.val →
      (s.svRun n ≠ some .stopped → exec .surveyStart s = finish (u.answered .notStopped)) ∧
      ∀ c b, (s.sv n).setup = some ⟨c, .stopped⟩ → (s.entry c.lt).binding = some b →
        (b.state ≠ .active ∨ (s.seg b.segment).state = .disabled ∨
          (∃ r, (s.seg b.segment).state = .recovering r) ∨
          (∃ r, (s.seg b.segment).state = .faulted r) →
          exec .surveyStart s = finish ((u.putSv n { s.sv n with
            setup := some ⟨c, .held⟩ }).answered .done)) ∧
        (b.state = .active →
          ((s.seg b.segment).state = .idle ∨ ∃ w, (s.seg b.segment).state = .busy w) →
          c.startOffset ≠ 0 → exec .surveyStart s = finish ((u.putSv n { s.sv n with
            setup := some ⟨c, .waiting ⟨s.timebase.time + c.startOffset, s.timebase.time⟩⟩ }).answered
              .done)) ∧
        (b.state = .active →
          ((s.seg b.segment).state = .idle ∨ ∃ w, (s.seg b.segment).state = .busy w) →
          c.startOffset = 0 → n ∉ (s.seg b.segment).dueList →
          ∃ l1 l2, (s.seg b.segment).dueList = l1 ++ l2 ∧
            (∀ m ∈ l1, ∀ e d, (s.sv m).setup = some ⟨e, .due d⟩ →
              d.time ≠ s.timebase.time ∨ m < n) ∧
            (∀ m rest, l2 = m :: rest → ∀ e d, (s.sv m).setup = some ⟨e, .due d⟩ →
              d.time = s.timebase.time ∧ n < m) ∧
            let t := (u.putSv n { s.sv n with
              setup := some ⟨c, .due ⟨s.timebase.time, s.timebase.time⟩⟩ }).putSeg b.segment
                { s.seg b.segment with dueList := l1 ++ n :: l2 }
            exec .surveyStart s = finish ((opportunity b.segment t).answered .done) ∧
            ((s.seg b.segment).state ≠ .idle → exec .surveyStart s = finish (t.answered .done)))

/-- R151: SURVEY_STOP. -/
def Obligations.SurveyStopByState : Prop :=
  ∀ (s : State) (rest : List Action), s.atCommand 0x0E rest →
    let u := s.leaving rest
    (31 < (s.arg 0).toNat → exec .surveyStop s = finish (u.answered .badArgument)) ∧
    ∀ n : SvId, (s.arg 0).toNat = n.val →
      ((s.sv n).setup = none → exec .surveyStop s = finish (u.answered .notSet)) ∧
      ∀ c r, (s.sv n).setup = some ⟨c, r⟩ →
        match r with
        | .orphaned => exec .surveyStop s = finish (u.answered .notSet)
        | .stopped => exec .surveyStop s = finish (u.answered .done)
        | .waiting _ => exec .surveyStop s =
            finish ((u.putSv n { s.sv n with setup := some ⟨c, .stopped⟩ }).answered .done)
        | .held => exec .surveyStop s =
            finish ((u.putSv n { s.sv n with setup := some ⟨c, .stopped⟩ }).answered .done)
        | .reading d x => exec .surveyStop s = finish ((u.putSv n { s.sv n with
            setup := some ⟨c, .reading d (if x = .orphaned then .orphaned else .stopped)⟩ }).answered
              .done)
        | .due _ => ∀ b, (s.entry c.lt).binding = some b → exec .surveyStop s =
            finish (((u.putSeg b.segment { s.seg b.segment with
              dueList := (s.seg b.segment).dueList.filter (· != n) }).putSv n { s.sv n with
                setup := some ⟨c, .stopped⟩ }).answered .done)

/-- R114 to R116, TABLE 47: CANCEL by what holds the tag; for a RUNNING context, where its one slot is on
the bus, waits for a free bus (R89: its attempt ends ABORTED at once with nothing driven), or waits on a
segment that is not IDLE, and no other transaction that waits for a free bus holds a CANCEL. -/
def Obligations.CancelByHolder : Prop :=
  ∀ (s : State) (rest : List Action), s.atCommand 0x10 rest → TagLaw s →
    let u := s.leaving rest
    ((∀ e ∈ s.rq, e.request.tag ≠ s.arg 0) →
      (∀ c x, s.ctx c = some x → x.request.tag ≠ s.arg 0) →
      exec .cancel s = finish (u.answered .notFound)) ∧
    (∀ e ∈ s.rq, e.request.tag = s.arg 0 →
      (e.finish ≠ none → exec .cancel s = finish (u.answered .tooLate)) ∧
      (e.finish = none → exec .cancel s = finish ((examine (finishQueued (s.arg 0)
        ⟨.of .cancelled, s.timebase.time, if e.request.isGroup then some 0 else none⟩ u)).answered
          .done))) ∧
    ∀ c x, s.ctx c = some x → x.request.tag = s.arg 0 →
      (x.finish ≠ none → exec .cancel s = finish (u.answered .tooLate)) ∧
      (x.finish = none → x.cancelRequested = true → exec .cancel s = finish (u.answered .accepted)) ∧
      (x.finish = none → x.cancelRequested = false →
        ∀ (k : SlotId) (o : OpSlot), s.carries k o c x →
          (∀ j p, s.slot j = some p → p.context = c → j = k) →
          let others : Prop := ∀ i w, i ≠ o.segment → (s.seg i).state = .busy w → w.phase = .waitFree →
            w.stop.cancel = false
          (∀ cur : Current, o.state = .active false →
            (s.seg o.segment).state = .busy cur → cur.phase ≠ .waitFree →
            others →
            exec .cancel s = finish ((((u.putCtx c (some { x with cancelRequested := true })).putSlot k
              (some { o with state := .active true })).inState o.segment
                (.busy { cur with stop := { cur.stop with cancel := true } })).answered .accepted)) ∧
          (∀ script b, o.state = .active false → (s.seg o.segment).state = .busy
              ⟨.host k o.kind, some o.lt, script, .waitFree, ⟨false, false, false⟩⟩ → others →
            (s.entry o.lt).binding = some b → b.state ≠ .draining → (s.seg o.segment).noWork →
            (s.seg o.segment).linesFree → s.postingOpen → s.noneQueued →
            exec .cancel s = finish (((u.attemptEnded k o c x { s.entry o.lt with
              refCount := (s.entry o.lt).refCount - 1 } (.of .cancelled) x.result 0).inState o.segment
                .idle).answered .accepted)) ∧
          ∀ b, (∀ m, o.state ≠ .active m) → (s.entry o.lt).binding = some b → b.state ≠ .draining →
            (s.seg o.segment).state ≠ .idle → s.postingOpen → s.noneQueued →
            (∀ i w, (s.seg i).state = .busy w → w.phase = .waitFree → w.stop.cancel = false) →
            exec .cancel s = finish ((u.opEnded k o c x .cancelled).answered .accepted))

/-- R182: a code of 0x00 or above 0x10. -/
def Obligations.UnknownCodesAnswered : Prop :=
  ∀ (s : State) (rest : List Action) (code : Byte), s.atCommand code rest →
    (code = 0x00 ∨ 0x10 < code.toNat) →
    exec .unknownCommand s = finish ((s.leaving rest).answered .unknownCommand)

/-! ### Time -/

/-- R119, R142, R177, R184: the counts stand until RESET_N rises; a tick advances the tick count and the
line times of every segment; at every tenth tick TIME advances and every record's AGE rises by one, up to
255. Line times counted in ticks are the model's choice (log 6). R184 makes TIME advance at the tenth tick
itself; that TIME_STEP takes effect at ten or more ticks counted and changes nothing before is the model's
choice (log 10, DESIGN CHOICE), as is the count of ticks since TIME last advanced (log 17). -/
def Obligations.TimebaseCounts : Prop :=
  (∀ (s : State) (l0 l1 l2 l3 : TickLines),
    exec .resetRelease s = finish { s with port := { s.port with resetN := true } } ∧
    (s.port.resetN = false → exec (.tick l0 l1 l2 l3) s = finish s ∧ exec .timeStep s = finish s)) ∧
  ∀ (s : State), s.port.resetN = true →
    (∀ l0 l1 l2 l3 : TickLines, ∃ g0 g1 g2 g3 : Segment,
      exec (.tick l0 l1 l2 l3) s = finish (((({ s with
        timebase := ⟨s.timebase.time, s.timebase.tick + 1, s.timebase.subTicks + 1⟩ }.putSeg 0 g0).putSeg
        1 g1).putSeg 2 g2).putSeg 3 g3) ∧
      ∀ p ∈ [(s.seg 0, l0, g0), (s.seg 1, l1, g1), (s.seg 2, l2, g2), (s.seg 3, l3, g3)],
        p.2.2 = { p.1 with clockLine := p.2.2.clockLine, dataLine := p.2.2.dataLine } ∧
        p.2.2.clockLine.high = p.2.1.clock ∧ p.2.2.dataLine.high = p.2.1.data ∧
        p.2.2.clockLine.steady = (if p.2.1.clockMoved = true ∨ p.1.clockLine.high ≠ p.2.1.clock then 0
          else p.1.clockLine.steady + 1) ∧
        p.2.2.dataLine.steady = (if p.2.1.dataMoved = true ∨ p.1.dataLine.high ≠ p.2.1.data then 0
          else p.1.dataLine.steady + 1)) ∧
    (10 ≤ s.timebase.subTicks → exec .timeStep s = finish { s with
      timebase := ⟨s.timebase.time + 1, s.timebase.tick, s.timebase.subTicks - 10⟩
      completion := { s.completion with
        cq := s.completion.cq.map fun c => ⟨c.record, min (c.age + 1) 255⟩ } }) ∧
    (s.timebase.subTicks < 10 → exec .timeStep s = finish s)

/-- R103: the expiry of a backoff makes the slot PENDING in its place, whatever the wrap of the tick
count; before it, and for a slot in no backoff, nothing happens. That the expiry still takes effect when
its command comes later is the model's choice (log 10). -/
def Obligations.BackoffExpires : Prop :=
  ∀ (s : State) (k : SlotId),
    ((∀ o, s.slot k = some o → ∀ a b, o.state ≠ .backoff a b) →
      exec (.backoffExpiry k) s = finish s) ∧
    ∀ (o : OpSlot) (start gap : Word16), s.slot k = some o → o.state = .backoff start (start + gap) →
      ((s.timebase.tick - start).toNat < gap.toNat → exec (.backoffExpiry k) s = finish s) ∧
      (gap.toNat ≤ (s.timebase.tick - start).toNat → (s.seg o.segment).state ≠ .idle →
        exec (.backoffExpiry k) s = finish (s.putSlot k (some { o with state := .pending })))

/-- R64, R92 to R96, R120, R154: what an IDLE segment does with a grant opportunity. A line held low sends
it to RECOVERING; a line low for less than STUCK_TIME does not, and what is granted then waits for the bus to
be free; that BUS_FREE is no while it waits is the model's choice (log 12). Otherwise an alert query called
for is granted first; then the head of the due list, if
SURVEY_SHARE host operations have passed or none can go; then the first PENDING operation with none before
it that names its LT; CONSEC_HOST counts as each grant says. No other segment state grants anything. A
backoff that expires is such an opportunity. -/
def Obligations.ArbiterChooses : Prop :=
  (∀ (s : State) (i : SegId),
    let g := s.seg i
    let called := g.config.alertEnable = true ∧ g.alert.suspended = false ∧ g.alertLow = true
    let noneGoes := ∀ l1 k l2, g.pendingList = l1 ++ k :: l2 → ¬ s.mayGo l1 k
    (g.state ≠ .idle → arbitrate i s = s) ∧
    (g.state = .idle → ¬ g.linesFree → arbitrate i s = s.putSeg i { g with
      state := .recovering ⟨0, .check, none⟩, busFree := false }) ∧
    (g.state = .idle → g.linesFree →
      (called → arbitrate i s = s.putSeg i (({ g with
        consecHost := if g.dueList = [] then 0 else g.consecHost } : Segment).granted .alert none
          [.addressRead g.config.alertAddress, .read false])) ∧
      (¬ called → g.dueList = [] → noneGoes → arbitrate i s = s) ∧
      (∀ n rest c d b script, ¬ called → g.dueList = n :: rest →
        g.config.surveyShare ≤ g.consecHost ∨ noneGoes →
        (s.sv n).setup = some ⟨c, .due d⟩ → (s.entry c.lt).binding = some b → b.segment = i →
        (c.selector = none → script = .addressRead b.address ::
          (List.replicate (c.length - 1) (.read true) ++ [.read false])) →
        (∀ v, c.selector = some v → script = .addressWrite b.address :: .write v ::
          .addressRead b.address :: (List.replicate (c.length - 1) (.read true) ++ [.read false])) →
        1 ≤ c.length →
        arbitrate i s = (((s.putSv n { s.sv n with
          setup := some ⟨c, .reading d .waiting⟩ }).putEntry c.lt { s.entry c.lt with
            refCount := (s.entry c.lt).refCount + 1 }).putSeg i (({ g with
              dueList := g.dueList.filter (· != n), consecHost := 0 } : Segment).granted (.survey n)
                (some c.lt) script))) ∧
      ∀ l1 k l2 o x, ¬ called → g.dueList = [] ∨ g.consecHost < g.config.surveyShare →
        g.pendingList = l1 ++ k :: l2 → s.mayGo l1 k →
        (∀ m1 j m2, l1 = m1 ++ j :: m2 → ¬ s.mayGo m1 j) →
        s.slot k = some o → s.ctx o.context = some x →
        arbitrate i s = (s.putSlot k (some { o with
          state := .active false, attempts := o.attempts + 1 })).putSeg i (({ g with
            pendingList := g.pendingList.filter (· != k)
            consecHost := if g.dueList = [] then 0 else min (g.consecHost + 1) 8 } : Segment).granted
              (.host k o.kind) (some o.lt) (hostScript o.address x.request)))) ∧
  ∀ (s : State) (k : SlotId) (o : OpSlot) (start gap : Word16), s.noneQueued → s.slot k = some o →
    o.state = .backoff start (start + gap) → gap.toNat ≤ (s.timebase.tick - start).toNat →
    exec (.backoffExpiry k) s =
      finish (arbitrate o.segment (s.putSlot k (some { o with state := .pending })))

/-- R39, R105, R106: the deadline of a QUEUED entry finishes it EXPIRED at its DEADLINE_TIME; that of a
RUNNING context whose slots are all on the bus is recorded and touches none of them; one that has a single
waiting operation finishes EXPIRED and is posted. That a passing still takes effect when its command comes
later than its step is the model's choice (log 10). -/
def Obligations.DeadlinesPass : Prop :=
  ∀ (s : State),
    (∀ e ∈ s.rq, TagLaw s → e.finish = none → e.request.deadline ≠ 0 →
      (e.request.deadline.toNat ≤ (s.timebase.time - e.acceptTime).toNat →
        exec (.queuedDeadlineExpiry e.request.tag) s = finish (examine (finishQueued e.request.tag
          ⟨.of .expired, e.acceptTime + e.request.deadline,
            if e.request.isGroup then some 0 else none⟩ s))) ∧
      ((s.timebase.time - e.acceptTime).toNat < e.request.deadline.toNat →
        exec (.queuedDeadlineExpiry e.request.tag) s = finish s)) ∧
    (∀ c x, s.ctx c = some x → x.finish = none → x.deadlinePassed = some false →
      x.request.deadline ≠ 0 →
      ((s.timebase.time - x.acceptTime).toNat < x.request.deadline.toNat →
        exec (.contextDeadlinePasses c) s = finish s) ∧
      (x.request.deadline.toNat ≤ (s.timebase.time - x.acceptTime).toNat →
        (∀ k o, s.slot k = some o → o.context = c → ∃ m, o.state = .active m) →
        exec (.contextDeadlinePasses c) s =
          finish (s.putCtx c (some { x with deadlinePassed := some true }))) ∧
      ∀ k o b, x.request.deadline.toNat ≤ (s.timebase.time - x.acceptTime).toNat →
        s.carries k o c x → (∀ m, o.state ≠ .active m) →
        (∀ j p, s.slot j = some p → p.context = c → j = k) →
        (s.entry o.lt).binding = some b → b.state ≠ .draining → s.postingOpen → s.noneQueued →
        (s.seg o.segment).state ≠ .idle →
        exec (.contextDeadlinePasses c) s = finish (s.opEnded k o c x .expired))

/-- R153: a WAITING entry falls due when its time has come, whatever the wrap of TIME, and joins the due
list before the first listed entry it stands before, the others keeping their order. That a command later
than the step still takes effect is the model's choice (log 10). -/
def Obligations.SurveyEntryFallsDue : Prop :=
  ∀ (s : State) (n : SvId) (c : SurveyConf) (b : Binding) (since interval : Word16),
    (s.sv n).setup = some ⟨c, .waiting ⟨since + interval, since⟩⟩ → (s.entry c.lt).binding = some b →
    ((s.timebase.time - since).toNat < interval.toNat → exec (.surveyFallsDue n) s = finish s) ∧
    (interval.toNat ≤ (s.timebase.time - since).toNat → (s.seg b.segment).state ≠ .idle →
      n ∉ (s.seg b.segment).dueList →
      ∃ l1 l2, (s.seg b.segment).dueList = l1 ++ l2 ∧
        exec (.surveyFallsDue n) s = finish ((s.putSv n { s.sv n with
          setup := some ⟨c, .due ⟨since + interval, since⟩⟩ }).putSeg b.segment { s.seg b.segment with
            dueList := l1 ++ n :: l2 }) ∧
        let age := (s.timebase.time - (since + interval)).toNat
        (∀ m ∈ l1, ∀ e d, (s.sv m).setup = some ⟨e, .due d⟩ →
          age < (s.timebase.time - d.time).toNat ∨ d.time = since + interval ∧ m < n) ∧
        ∀ m rest, l2 = m :: rest → ∀ e d, (s.sv m).setup = some ⟨e, .due d⟩ →
          (s.timebase.time - d.time).toNat < age ∨ d.time = since + interval ∧ n < m)

/-! ### The buses -/

/-- R76: BUS_FREE at a start seen and at a bus judged free, and the start condition of a transaction that
waits for it; the lines seen at the event are the model's (log 6). R76, R101, R102: BUSY_LIMIT passing
before the start of a host attempt with budget left and its deadline not passed returns the slot to BACKOFF
at the head of its list, and drives nothing. -/
def Obligations.WaitForTheBus : Prop :=
  (∀ (s : State) (i : SegId),
    exec (.busStartSeen i) s =
      finish (s.putSeg i { (s.seg i).sees ⟨true, false⟩ with busFree := false, dataLine := ⟨false, 0⟩ }) ∧
    ((s.seg i).state = .idle → exec (.busFreeDetected i) s =
      finish (s.putSeg i { (s.seg i).sees ⟨true, true⟩ with busFree := true })) ∧
    (∀ c, (s.seg i).state = .busy c → c.phase = .waitFree → exec (.busFreeDetected i) s =
      finish (s.putSeg i { ((s.seg i).sees ⟨true, true⟩).sees ⟨true, false⟩ with
        busFree := false, state := .busy { c with phase := .transfer } }))) ∧
  ∀ (s : State) (i : SegId) (k : SlotId) (o : OpSlot) (c : CtxId) (x : Context) (script : List BusItem)
    (b : Binding),
    (s.seg i).state = .busy ⟨.host k o.kind, some o.lt, script, .waitFree, ⟨false, false, false⟩⟩ →
    s.carries k o c x → o.segment = i → x.cancelRequested = false → x.deadlinePassed ≠ some true →
    o.attempts ≤ x.request.retryBudget → (s.seg i).config.retryGap ≠ 0 →
    (s.entry o.lt).binding = some b → s.noneQueued → (s.seg i).noWork → (s.seg i).linesFree →
    exec (.busyLimitExpiry i) s = finish ((s.putSlot k (some { o with
      state := .backoff s.timebase.tick (s.timebase.tick + BitVec.ofNat 16 (s.seg i).config.retryGap)
      lastAcked := 0 })).putSeg i { s.seg i with state := .idle, pendingList := [k] })

/-- R78, R120, R169: a stretch reaching its limit with the clock line high leads to the stop, in PHASE
STOPPING with its outcome fixed, while bytes are to come, but not once the bus is lost. That it does so at the
clock release of the stop that closes the transaction too, STRETCH_TIMEOUT taking the place of the outcome that
the bytes or a stop request gave, is the model's reading of R78 (log 19, DEDUCED): R80, R81, R83 and R89 can be
read as fixing DONE or ABORTED before that stop. In an alert query with the clock line low it ends the query at
once, without a response, and the segment enters RECOVERING. Spelled out with no stop request held, or with one
made no earlier than the boundary before the last byte carried; not spelled out for the clock held low under
host and survey work. -/
def Obligations.StretchLimitEnds : Prop :=
  ∀ (s : State) (i : SegId) (c : Current) (t : BusTrace) (data : Bool),
    (s.seg i).state = .busy c → c.phase = .transfer →
    c.stop = ⟨false, false, false⟩ ∨
      t.atStop ≤ t.bytes.length ∧ t.bytes.length ≤ t.atStop + 1 →
    let stopping (n : Nat) (addr : Bool) : State := s.putSeg i { (s.seg i).sees ⟨true, data⟩ with
      state := .busy { c with phase := .stopping ⟨.stretchTimeout, n, addr, []⟩ } }
    (∀ p rest w, verdict c.script t.bytes = .running p rest w →
      exec (.stretchLimitExpiry i t ⟨true, data⟩) s = finish (stopping p.bytesAcked p.addrAcked)) ∧
    (∀ p, verdict c.script t.bytes = .cut p → c.stop ≠ ⟨false, false, false⟩ →
      exec (.stretchLimitExpiry i t ⟨true, data⟩) s = finish (stopping p.bytesAcked p.addrAcked)) ∧
    (∀ r, verdict c.script t.bytes = .ended r → r.outcome ≠ .arbitrationLost →
      exec (.stretchLimitExpiry i t ⟨true, data⟩) s = finish (stopping r.bytesAcked r.addrAcked)) ∧
    (∀ r l, verdict c.script t.bytes = .ended r → r.outcome = .arbitrationLost →
      exec (.stretchLimitExpiry i t l) s = finish s) ∧
    ∀ p rest w, verdict c.script t.bytes = .running p rest w →
      c.work = .alert → c.lt = none → c.stop = ⟨false, false, false⟩ → (s.seg i).alert.nackCount < 2 →
      s.noneQueued →
      exec (.stretchLimitExpiry i t ⟨false, data⟩) s = finish (s.putSeg i
        { (s.seg i).sees ⟨false, data⟩ with
          state := .recovering ⟨0, .stretch, none⟩, busFree := false
          alert := { (s.seg i).alert with nackCount := (s.seg i).alert.nackCount + 1 } })

/-- R89, R90, R117, R132: a stop takes effect at the first boundary reached at or after the CANCEL. A WRITE
stopped after `j` of its bytes ends ABORTED, its request CANCELLED with BYTES_ACKED `j`; a READ is stopped
by a byte that the engine leaves unacknowledged, and its bytes are dropped. FAIL_COUNT is 0, an address
having been acknowledged. The bytes, and how many of them were over at the CANCEL, come with the command
(log 7). R88, R90, R91, R127, R128, R130: whatever the reasons held, a transaction stopped ends ABORTED: after
a RESET the map alone takes the outcome; an alert query's response is not used; a survey read stores nothing; a
host attempt's slot ends CANCELLED where CANCEL is held and SEGMENT_DISABLED otherwise; and a DISABLE held
completes in place of the change to IDLE. R101, R102, R117: an attempt that ends with its own outcome is
judged as if no stop had been asked: a retryable one with budget left enters BACKOFF at the head of the list,
and with RETRY_GAP 0 is granted again at once; a CANCEL held ends it CANCELLED there, and a DISABLE held
completes and ends it SEGMENT_DISABLED. -/
def Obligations.CancelledAttemptStops : Prop :=
  (∀ (s : State) (i : SegId) (k : SlotId) (o : OpSlot) (c : CtxId) (x : Context) (a : BusAddr)
    (b : Binding) (script : List BusItem),
    (s.seg i).state = .busy ⟨.host k o.kind, some o.lt, script, .transfer, ⟨true, false, false⟩⟩ →
    s.carries k o c x → o.segment = i → x.cancelRequested = true → x.result = none →
    (s.entry o.lt).binding = some b → b.state = .active →
    s.postingOpen → s.noneQueued → (s.seg i).noWork →
    let stopped (acked : Option Nat) : State := ((((s.putSlot k none).putEntry o.lt
      ⟨some b, 0, (s.entry o.lt).refCount - 1⟩).putCtx c none).putSeg i
        { (s.seg i).sees ⟨true, true⟩ with state := .idle }).withRecord
      { tag := x.request.tag, status := .of .cancelled, kind := o.kind, target := .lt o.lt
        attempts := o.attempts, finishTime := s.timebase.time, result := none, bytesAcked := acked
        successSet := none, failSet := none }
    (∀ j m : Nat, o.kind = .write → script = .addressWrite a :: x.request.writeData.map .write →
      j < x.request.writeData.length →
      (j ≤ m → m ≤ j + 1 →
        exec (.stopAtByteBoundary i ⟨.acked :: List.replicate j .acked, m⟩) s =
          finish (stopped (some j))) ∧
      (m < j → exec (.stopAtByteBoundary i ⟨.acked :: List.replicate j .acked, m⟩) s = finish s)) ∧
    ∀ (n m : Nat) (vs : List Byte) (v : Byte), o.kind = .read →
      script = .addressRead a :: (List.replicate n (.read true) ++ [.read false]) →
      vs.length < n → vs.length + 1 ≤ m → m ≤ vs.length + 2 →
      exec (.stopAtByteBoundary i
        ⟨.acked :: (vs.map (.read · true) ++ [.read v false]), m⟩) s = finish (stopped none)) ∧
  (∀ (s : State) (i : SegId) (cur : Current) (t : BusTrace) (p : Progress),
    (s.seg i).state = .busy cur → cur.stopsAt t p → s.noneQueued → (s.seg i).noWork →
    let e (lt : LtId) : MapEntry :=
      { (countOutcome lt ⟨.aborted, p.bytesAcked, p.addrAcked, []⟩ s).entry lt with
        refCount := (s.entry lt).refCount - 1 }
    let ends (u : State) : Prop :=
      let w := u.putSeg i { (s.seg i).sees ⟨true, true⟩ with state := .idle }
      (cur.stop.disable = false → exec (.stopAtByteBoundary i t) s = finish w) ∧
      (cur.stop.disable = true → ∃ v, w.disables i v ∧ exec (.stopAtByteBoundary i t) s = finish v)
    (cur.lt = none → cur.stop.reset = true ∨ cur.work = .alert ∧ cur.stop.disable = true → ends s) ∧
    (∀ lt b, cur.lt = some lt → (s.entry lt).binding = some b →
      b.state ≠ .draining ∨ (s.entry lt).refCount ≠ 1 →
      cur.stop.reset = true ∨ (∃ n, cur.work = .survey n) ∧ cur.stop.disable = true →
      ends (s.putEntry lt (e lt))) ∧
    ∀ k o c x b, cur.work = .host k o.kind → cur.lt = some o.lt → cur.stop.reset = false →
      s.carries k o c x → o.segment = i → x.cancelRequested = cur.stop.cancel →
      (s.entry o.lt).binding = some b → b.state ≠ .draining → s.postingOpen →
      ends (s.attemptEnded k o c x (e o.lt)
        (.of (if cur.stop.cancel then .cancelled else .segmentDisabled)) x.result p.bytesAcked)) ∧
  ∀ (s : State) (i : SegId) (cur : Current) (t : BusTrace) (r : AttemptResult) (k : SlotId) (o : OpSlot)
    (c : CtxId) (x : Context) (b : Binding),
    (s.seg i).state = .busy cur → cur.endsOwn t r → cur.work = .host k o.kind → cur.lt = some o.lt →
    cur.stop.reset = false → x.cancelRequested = cur.stop.cancel → s.carries k o c x → o.segment = i →
    (s.entry o.lt).binding = some b → b.state = .active → b.threshold = 0 → s.postingOpen →
    s.noneQueued → (s.seg i).noWork →
    let e : MapEntry := (countOutcome o.lt r s).entry o.lt
    let g : Segment := { (s.seg i).sees ⟨true, true⟩ with
      state := .idle
      busFree := if r.outcome = .arbitrationLost then false else (s.seg i).busFree }
    let ends (status : Status) (result : Option (List Byte)) : Prop :=
      let w := (s.attemptEnded k o c x { e with refCount := e.refCount - 1 } status result
        r.bytesAcked).putSeg i g
      (cur.stop.disable = false → exec (.transactionEnd i t ⟨true, true⟩) s = finish w) ∧
      (cur.stop.disable = true →
        ∃ v, w.disables i v ∧ exec (.transactionEnd i t ⟨true, true⟩) s = finish v)
    (r.outcome = .done → ends .ok
      (if o.kind = .read ∨ o.kind = .writeRead ∨ o.kind = .blockRead then some r.data else x.result)) ∧
    (r.outcome ≠ .done → ¬ o.mayRetry x r → ends (.of r.outcome) x.result) ∧
    (o.mayRetry x r → cur.stop.cancel = true → ends (.of .cancelled) x.result) ∧
    (o.mayRetry x r → cur.stop.cancel = false → cur.stop.disable = true →
      ends (.of .segmentDisabled) x.result) ∧
    (o.mayRetry x r → cur.stop.cancel = false → cur.stop.disable = false →
      let gap := (s.seg i).config.retryGap
      let now := s.timebase.tick
      (gap ≠ 0 → exec (.transactionEnd i t ⟨true, true⟩) s = finish (((s.putSlot k (some { o with
        state := .backoff now (now + BitVec.ofNat 16 gap), lastAcked := r.bytesAcked })).putEntry o.lt
          e).putSeg i { g with pendingList := [k] })) ∧
      (gap = 0 → exec (.transactionEnd i t ⟨true, true⟩) s = finish (((s.putSlot k (some { o with
        state := .active false, attempts := o.attempts + 1, lastAcked := r.bytesAcked })).putEntry o.lt
          e).putSeg i (({ g with consecHost := 0 } : Segment).granted (.host k o.kind) (some o.lt)
            (hostScript o.address x.request)))))

/-- R81, R86, R88, R132, R135, R137: a READ whose bytes all arrive ends DONE: FAIL_COUNT is 0, the slot
and the context are freed, the record with the bytes read joins the CQ, and the segment is IDLE. On a
DRAINING entry whose last reference it was, the retirement completes (R6). The bytes come with the command
(log 7). -/
def Obligations.ReadRequestCompletes : Prop :=
  ∀ (s : State) (i : SegId) (k : SlotId) (o : OpSlot) (c : CtxId) (x : Context) (a : BusAddr)
    (b : Binding) (data : List Byte) (m : Nat),
    (s.seg i).state = .busy ⟨.host k .read, some o.lt,
      .addressRead a :: (List.replicate (data.length - 1) (.read true) ++ [.read false]), .transfer,
      ⟨false, false, false⟩⟩ →
    s.carries k o c x → o.segment = i → o.kind = .read → (s.entry o.lt).binding = some b →
    s.postingOpen → s.noneQueued → (s.seg i).noWork → data ≠ [] →
    let ended (u : State) : State := (((u.putSlot k none).putCtx c none).putSeg i
        { (s.seg i).sees ⟨true, true⟩ with state := .idle }).withRecord
      { tag := x.request.tag, status := .ok, kind := .read, target := .lt o.lt
        attempts := o.attempts, finishTime := s.timebase.time, result := some data, bytesAcked := none
        successSet := none, failSet := none }
    (b.state = .active → exec (.transactionEnd i ⟨.acked :: readBytes data, m⟩ ⟨true, true⟩) s =
      finish (ended (s.putEntry o.lt ⟨some b, 0, (s.entry o.lt).refCount - 1⟩))) ∧
    (b.state = .draining → (s.entry o.lt).refCount = 1 →
      (∀ n, s.svLt n ≠ some o.lt) →
      exec (.transactionEnd i ⟨.acked :: readBytes data, m⟩ ⟨true, true⟩) s =
        finish (ended ((s.putEntry o.lt ⟨none, 0, 0⟩).withNotice
          (.targetRetired o.lt b.segment b.address))))

/-- R77, R79 to R84, R86, R89, TABLE 33: the ends of the shapes by the acknowledge bits seen. The engine
acknowledges each byte it reads but the last, and a count byte in range: another bit of its own after a
read byte is a stop where it is none, and does not occur where it is one. -/
def Obligations.ShapesEndByTheirBytes : Prop :=
  ∀ (a : BusAddr) (r : Request),
    let run := verdict (hostScript a r)
    let w := r.writeData.length
    let sent (j : Nat) : List BusByte := .acked :: List.replicate j .acked
    run [.nacked] = .ended ⟨.addressNack, 0, false, []⟩ ∧
    run [.lost] = .ended ⟨.arbitrationLost, 0, false, []⟩ ∧
    (r.kind = .write ∨ r.kind = .writeRead ∨ r.kind = .blockRead → ∀ j < w,
      run (sent j ++ [.nacked]) = .ended ⟨.dataNack, j, true, []⟩ ∧
      run (sent j ++ [.lost]) = .ended ⟨.arbitrationLost, j, true, []⟩) ∧
    (r.kind = .write → run (sent w) = .ended ⟨.done, w, true, []⟩) ∧
    (r.kind = .probe → run [.acked] = .ended ⟨.done, 0, true, []⟩) ∧
    (r.kind = .read →
      (∀ data : List Byte, data.length = r.readLength →
        run (.acked :: readBytes data) = .ended ⟨.done, 0, true, data⟩) ∧
      (∀ data : List Byte, data ≠ [] → data.length = r.readLength →
        run (.acked :: data.map (.read · true)) = .misfit) ∧
      ∀ (vs : List Byte) (v : Byte), vs.length + 1 < r.readLength →
        run (.acked :: (vs.map (.read · true) ++ [.read v false])) = .cut ⟨0, true, vs ++ [v]⟩) ∧
    (r.kind = .writeRead →
      (∀ data : List Byte, data.length = r.readLength →
        run (sent w ++ .acked :: readBytes data) = .ended ⟨.done, w, true, data⟩) ∧
      run (sent w ++ [.nacked]) = .ended ⟨.addressNack, w, true, []⟩ ∧
      run (sent w ++ [.lost]) = .ended ⟨.arbitrationLost, w, true, []⟩) ∧
    (r.kind = .blockRead → w = 1 →
      (∀ (v : Byte) (data : List Byte), 1 ≤ v.toNat → v.toNat ≤ r.readLength → data.length = v.toNat →
        run (sent 1 ++ .acked :: .read v true :: readBytes data) = .ended ⟨.done, 1, true, data⟩ ∧
        run (sent 1 ++ [.acked, .read v false]) = .cut ⟨1, true, []⟩) ∧
      ∀ v : Byte, v.toNat = 0 ∨ r.readLength < v.toNat →
        run (sent 1 ++ [.acked, .read v false]) = .ended ⟨.blockLengthError, 1, true, []⟩ ∧
        run (sent 1 ++ [.acked, .read v true]) = .misfit)

/-- R10, TABLE 9: FAIL_COUNT after a transaction to a bound entry, and nothing else of the map. R11, R12,
R111: an outcome that raises it to the threshold isolates the entry: the waiting operations of the LT other
than PROBEs end TARGET_ISOLATED, its survey entries are held, and TARGET_ISOLATED is posted; spelled out
for the last attempt of an operation, and for one operation that waits. R15: a PROBE that ends DONE
reinstates an ISOLATED entry with AUTO_REINSTATE yes. R65, R67: the last attempt of one member of a group
context with others outstanding: its slot ends, its member takes outcome, ATTEMPTS and BYTES_ACKED, OUTSTANDING
falls by one, and the context runs on. -/
def Obligations.FailCountAndIsolation : Prop :=
  (∀ (s : State) (lt : LtId) (r : AttemptResult) (b : Binding), (s.entry lt).binding = some b →
    ∃ n, countOutcome lt r s = s.putEntry lt { s.entry lt with failCount := n } ∧
      (r.outcome = .addressNack ∨ r.outcome = .stretchTimeout →
        n = min ((s.entry lt).failCount + 1) 15) ∧
      (r.outcome ≠ .addressNack → r.outcome ≠ .stretchTimeout → r.addrAcked = true → n = 0) ∧
      (r.outcome ≠ .addressNack → r.outcome ≠ .stretchTimeout → r.addrAcked = false →
        n = (s.entry lt).failCount)) ∧
  (∀ (s : State) (i : SegId) (k : SlotId) (o : OpSlot) (c : CtxId) (x : Context) (b : Binding)
    (script : List BusItem) (t : BusTrace) (r : AttemptResult),
    (s.seg i).state = .busy ⟨.host k o.kind, some o.lt, script, .transfer, ⟨false, false, false⟩⟩ →
    s.carries k o c x → o.segment = i → verdict script t.bytes = .ended r →
    (s.entry o.lt).binding = some b → b.segment = i → s.postingOpen → s.noneQueued →
    (s.seg i).noWork →
    let e := s.entry o.lt
    let ended (st : Bound) (fails : Nat) (status : Status) : State := ((((s.putSlot k none).putEntry o.lt
      ⟨some { b with state := st }, fails, e.refCount - 1⟩).putCtx c none).putSeg i
        { (s.seg i).sees ⟨true, true⟩ with state := .idle }).withRecord
      { tag := x.request.tag, status := status, kind := o.kind, target := .lt o.lt
        attempts := o.attempts, finishTime := s.timebase.time, result := x.result
        bytesAcked := if o.kind = .write ∨ o.kind = .writeRead then some r.bytesAcked else none
        successSet := none, failSet := none }
    (r.outcome = .addressNack → x.request.retryBudget < o.attempts → b.state = .active →
      b.threshold ≠ 0 → (∀ n, s.svLt n = some o.lt → s.svRun n = some .stopped ∨
        s.svRun n = some .held ∨ s.svRun n = some .orphaned) → e.failCount < 15 →
      exec (.transactionEnd i t ⟨true, true⟩) s = finish (
        if e.failCount + 1 = b.threshold then
          (ended .isolated (e.failCount + 1) (.of .addressNack)).withNotice
            (.targetIsolated o.lt b.segment b.address (e.failCount + 1))
        else ended .active (e.failCount + 1) (.of .addressNack))) ∧
    (o.kind = .probe → r.outcome = .done → r.addrAcked = true → b.state = .isolated →
      (∀ n, s.svLt n = some o.lt → s.svRun n ≠ some .held) →
      exec (.transactionEnd i t ⟨true, true⟩) s = finish (
        if b.autoReinstate then (ended .active 0 .ok).withNotice
          (.targetReinstated o.lt b.segment b.address)
        else ended .isolated 0 .ok))) ∧
  (∀ (s : State) (i : SegId) (k : SlotId) (o : OpSlot) (x : Context) (grp : GroupId) (b : Binding)
    (script : List BusItem) (t : BusTrace) (r : AttemptResult),
    (s.seg i).state = .busy ⟨.host k o.kind, some o.lt, script, .transfer, ⟨false, false, false⟩⟩ →
    s.slot k = some o → s.ctx o.context = some x → 2 ≤ x.outstanding → x.request.target = .group grp →
    o.segment = i → verdict script t.bytes = .ended r → ¬ o.mayRetry x r →
    (s.entry o.lt).binding = some b → b.state = .active → b.threshold = 0 → s.noneQueued →
    (s.seg i).noWork →
    exec (.transactionEnd i t ⟨true, true⟩) s = finish ((((s.putSlot k none).putEntry o.lt
      { (countOutcome o.lt r s).entry o.lt with refCount := (s.entry o.lt).refCount - 1 }).putCtx
        o.context (some { x with
          members := x.members.modify o.member fun m =>
            { m with outcome := some r.outcome, attempts := o.attempts, bytesAcked := r.bytesAcked }
          outstanding := x.outstanding - 1 })).putSeg i { (s.seg i).sees ⟨true, true⟩ with
            state := .idle
            busFree := if r.outcome = .arbitrationLost then false else (s.seg i).busFree })) ∧
  ∀ (s : State) (lt : LtId) (b : Binding), (s.entry lt).binding = some b → s.noneQueued →
    let u := s.putEntry lt { s.entry lt with binding := some { b with state := .isolated } }
    let isolates (w : State) : Prop := ∃ v, w.surveyMoved v b.segment
      (fun c r => if c.lt = lt then r.whenHeld else r) (fun c r => c.lt == lt && r.isDue) ∧
      isolate lt s = v.withNotice (.targetIsolated lt b.segment b.address (s.entry lt).failCount)
    ((∀ j ∈ (s.seg b.segment).pendingList, ∀ p, s.slot j = some p → p.lt ≠ lt ∨ p.kind = .probe) →
      isolates u) ∧
    ∀ k o c x, s.carries k o c x → o.lt = lt → o.segment = b.segment → o.kind ≠ .probe →
      (∀ m, o.state ≠ .active m) → k ∈ (s.seg b.segment).pendingList →
      (∀ j ∈ (s.seg b.segment).pendingList, j ≠ k →
        ∀ p, s.slot j = some p → p.lt ≠ lt ∨ p.kind = .probe) →
      (s.seg b.segment).pendingList.Nodup → (s.seg b.segment).state ≠ .idle → s.postingOpen →
      isolates (u.opEnded k o c x .targetIsolated)

/-- R6, R8, R88, R154, R156 to R161: the end of a survey read, spelled out for an LT that no failure isolates,
with nothing else waiting: what the read makes of the mirror slot, CONSEC_FAILS and WINDOW_STATE, with its
notices; then the entry stops, or waits for DUE_TIME plus PERIOD, or, a whole PERIOD late, counts an
OVERRUN and is read again at once. An entry whose EXIT_TO is ORPHANED takes nothing: its LT is DRAINING,
and where the read held its last reference the retirement completes with it. -/
def Obligations.SurveyReadEnds : Prop :=
  ∀ (s : State) (i : SegId) (n : SvId) (c : SurveyConf) (d : DueTime) (x : ExitTo) (b : Binding)
    (cur : Current) (t : BusTrace) (r : AttemptResult),
    (s.seg i).state = .busy cur → cur.work = .survey n → cur.lt = some c.lt → cur.endsBy t r →
    (s.sv n).setup = some ⟨c, .reading d x⟩ → (s.entry c.lt).binding = some b → b.segment = i →
    b.threshold = 0 ∨ b.state = .draining → r.outcome ≠ .aborted → s.noneQueued →
    (s.seg i).noWork → (s.seg i).busFree = false →
    let now := s.timebase.time
    let e : MapEntry := { (countOutcome c.lt r s).entry c.lt with
      refCount := (s.entry c.lt).refCount - 1 }
    let g : Segment := { (s.seg i).sees ⟨true, true⟩ with state := .idle }
    let overruns := (s.sv n).overruns
    (x = .orphaned →
      (b.state ≠ .draining ∨ (s.entry c.lt).refCount ≠ 1 →
        exec (.transactionEnd i t ⟨true, true⟩) s = finish (((s.putEntry c.lt e).putSeg i g).putSv n
          { s.sv n with setup := some ⟨c, .orphaned⟩ })) ∧
      (b.state = .draining → (s.entry c.lt).refCount = 1 →
        ∃ v, s.surveyMoved v i (fun k q => if k.lt = c.lt then .orphaned else q)
            (fun k _ => k.lt == c.lt) ∧
          exec (.transactionEnd i t ⟨true, true⟩) s =
            finish (((v.putSeg i g).putEntry c.lt ⟨none, 0, 0⟩).withNotice
              (.targetRetired c.lt b.segment b.address)))) ∧
    ∀ m fails w l, b.state ≠ .draining → s.takesRead n c r m fails w l →
      let u (e : MapEntry) (g : Segment) : State :=
        (((s.putEntry c.lt e).putSeg i g).putMirror n m).withNotices l
      (x = .stopped → exec (.transactionEnd i t ⟨true, true⟩) s =
        finish ((u e g).putSv n ⟨some ⟨c, .stopped⟩, fails, overruns, w⟩)) ∧
      (x = .waiting → (now - d.time).toNat < c.period.toNat →
        exec (.transactionEnd i t ⟨true, true⟩) s = finish ((u e g).putSv n
          ⟨some ⟨c, .waiting ⟨d.time + c.period, d.time⟩⟩, fails, overruns, w⟩)) ∧
      ∀ script, x = .waiting → c.period.toNat ≤ (now - d.time).toNat →
        (c.selector = none → script = .addressRead b.address ::
          (List.replicate (c.length - 1) (.read true) ++ [.read false])) →
        (∀ v, c.selector = some v → script = .addressWrite b.address :: .write v ::
          .addressRead b.address :: (List.replicate (c.length - 1) (.read true) ++ [.read false])) →
        1 ≤ c.length →
        exec (.transactionEnd i t ⟨true, true⟩) s = finish ((u { e with refCount := e.refCount + 1 }
          (({ g with consecHost := 0 } : Segment).granted (.survey n) (some c.lt) script)).putSv n
            ⟨some ⟨c, .reading ⟨now, now⟩ .waiting⟩, fails, min (overruns + 1) 255, w⟩)

/-- R169 to R171, TABLE 66: the end of an alert query, spelled out with no operation and no survey entry
waiting. An answer posts ALERT for the bound entry that holds its address, STRAY_ALERT with none; the
collector counts repeats and misses, and at 8 and 3 of them suspends itself and posts ALERT_STUCK; a notice that finds
16 records in the NQ is discarded and counted in DROPPED, and everything else stands (R174). While the
input stays asserted and collection is not suspended the next query is granted at once. -/
def Obligations.AlertQueryEnds : Prop :=
  ∀ (s : State) (i : SegId) (cur : Current) (t : BusTrace) (r : AttemptResult) (y : AlertState),
    (s.seg i).state = .busy cur → cur.work = .alert → cur.lt = none → cur.endsBy t r →
    s.noneQueued → (s.seg i).pendingList = [] → (s.seg i).dueList = [] →
    (s.seg i).busFree = false →
    let x := (s.seg i).alert
    let g : Segment := { (s.seg i).sees ⟨true, true⟩ with state := .idle, alert := y }
    let after : Segment :=
      if g.config.alertEnable ∧ y.suspended = false ∧ g.alertLow then
        ({ g with consecHost := 0 } : Segment).granted .alert none
          [.addressRead g.config.alertAddress, .read false]
      else g
    (∀ v a, r.outcome = .done → r.data = [v] → a.toNat = v.toNat / 2 → x.answered y a →
      ∀ l, l = (if y.repeatCount = 8 then [.alertStuck i .repeated a] else []) →
      (∀ lt b, AddressLaw s → (s.entry lt).binding = some b → b.segment = i → b.address = a →
        exec (.transactionEnd i t ⟨true, true⟩) s =
          finish ((s.putSeg i after).withNotices (.alert lt i a b.state :: l))) ∧
      (¬ s.bound i a → exec (.transactionEnd i t ⟨true, true⟩) s =
        finish ((s.putSeg i after).withNotices (.strayAlert i a v :: l)))) ∧
    (r.outcome ≠ .done → r.outcome ≠ .aborted → x.missed y r.outcome →
      exec (.transactionEnd i t ⟨true, true⟩) s = finish ((s.putSeg i after).withNotices
        (if y.nackCount = 3 then [.alertStuck i .noAck 0] else [])))

/-- R132, R133: the STATUS of a finishing context. -/
def Obligations.StatusOfRequests : Prop :=
  ∀ (x : Context),
    (∀ m o, x.policy = none → x.members = [m] → m.outcome = some o →
      (o = .done → contextStatus x = .ok) ∧
      (o = .cancelled ∨ o = .aborted → x.cancelRequested = true →
        contextStatus x = .of .cancelled) ∧
      (o ≠ .done → o ≠ .cancelled → o ≠ .aborted → contextStatus x = .of o)) ∧
    ∀ p, x.policy = some p →
      let withdrawn := x.cancelRequested = true ∧
        ∃ m ∈ x.members, m.outcome = some .cancelled ∨ m.outcome = some .aborted
      (withdrawn → contextStatus x = .of .cancelled) ∧
      (¬ withdrawn → p.met x.members → contextStatus x = .ok) ∧
      (¬ withdrawn → ¬ p.met x.members → contextStatus x = .groupPolicyFailed)

/-- R168, R169, R92: the alert input. Asserted on a watched IDLE segment with nothing in its way, it is
the grant of an alert query; on a segment that is not IDLE, or not watched, its level alone is kept.
Released, it clears LAST_ADDRESS and both counts and keeps SUSPENDED. -/
def Obligations.AlertInputChanges : Prop :=
  ∀ (s : State) (i : SegId),
    ((s.seg i).alertLow = false →
      ((s.seg i).state ≠ .idle ∨ (s.seg i).config.alertEnable = false →
        exec (.alertAsserted i) s = finish (s.putSeg i { s.seg i with alertLow := true })) ∧
      ((s.seg i).state = .idle → (s.seg i).config.alertEnable = true →
        (s.seg i).alert.suspended = false → (s.seg i).linesFree → (s.seg i).busFree = false →
        s.noneQueued →
        exec (.alertAsserted i) s = finish (s.putSeg i { s.seg i with
          alertLow := true
          consecHost := if (s.seg i).dueList = [] then 0 else (s.seg i).consecHost
          state := .busy ⟨.alert, none, [.addressRead (s.seg i).config.alertAddress, .read false],
            .waitFree, ⟨false, false, false⟩⟩ }))) ∧
    ((s.seg i).alertLow = true →
      ((s.seg i).state ≠ .disabled → (s.seg i).config.alertEnable = true →
        exec (.alertReleased i) s = finish (s.putSeg i { s.seg i with
          alertLow := false, alert := ⟨none, 0, 0, (s.seg i).alert.suspended⟩ })) ∧
      ((s.seg i).state = .disabled ∨ (s.seg i).config.alertEnable = false →
        exec (.alertReleased i) s = finish (s.putSeg i { s.seg i with alertLow := false })))

/-- R121 to R123: a recovery that frees the bus after `p` pulses posts SEGMENT_RECOVERED and leaves the
segment IDLE (BUS_FREE stays no: log 12), the HELD survey entries of the segment whose LT is ACTIVE fall due
now, and the arbiter looks for work; one that finds the data line low after sixteen pulses, or the clock line
low at any wait, leaves it FAULTED, its listed operations end SEGMENT_FAULTED, its WAITING and DUE survey
entries are held, and SEGMENT_FAULT is posted with the pulses made. Where the clock line is low at the wait of
step 4, the line held follows the data level seen (log 25, DESIGN CHOICE). R119: the line times stand as the
ticks have them, but for the clock line just gone high where the data line is found held, and the data line if
it has moved since the last tick (log 6). Spelled out where no request is queued, and for a failure with
nothing listed and with one operation listed. -/
def Obligations.RecoveryEnds : Prop :=
  ∀ (s : State) (i : SegId) (r : Recovery), (s.seg i).state = .recovering r → s.noneQueued →
    (∀ p : Nat, p ≤ 16 →
      let freed : State := (s.putSeg i { s.seg i with
        state := .idle, busFree := false, clockLine := ⟨true, 0⟩, dataLine := ⟨true, 0⟩ }).withNotice
          (.segmentRecovered i p r.cause)
      let seen : List Lines := List.replicate p ⟨true, false⟩ ++ [⟨true, true⟩, ⟨true, true⟩]
      (∃ w, freed.released w i (s.activeOn i) ∧
        exec (.recoverySucceeds i seen) s = finish (arbitrate i w)) ∧
      ((s.seg i).noWork → (∀ n, s.svSeg n = some i → s.svRun n ≠ some .held) →
        exec (.recoverySucceeds i seen) s = finish freed)) ∧
    ∀ moved : Bool,
      let found (high : Bool) (g : Segment) : Segment :=
        { g with dataLine := if moved then ⟨high, 0⟩ else g.dataLine }
      let fails (seen : List Lines) (p : Nat) (held : LineHeld) (g : Segment) : Prop :=
        let f := s.putSeg i { g with state := .faulted ⟨p, r.cause, some held⟩, consecHost := 0 }
        let ends (u : State) : Prop := ∃ v, u.holdsSurvey i v ∧
          exec (.recoveryFails i ⟨seen, moved⟩) s = finish (v.withNotice (.segmentFault i p held r.cause))
        ((s.seg i).pendingList = [] → ends f) ∧
        ∀ k o c x b, (s.seg i).pendingList = [k] → s.carries k o c x → o.segment = i →
          (∀ m, o.state ≠ .active m) → (s.entry o.lt).binding = some b → b.state ≠ .draining →
          s.postingOpen → ends (f.opEnded k o c x .segmentFaulted)
      let dataHeld : Segment :=
        { found false ((s.seg i).sees ⟨true, false⟩) with clockLine := ⟨true, 0⟩ }
      fails (List.replicate 17 ⟨true, false⟩) 16 .data dataHeld ∧
      fails (List.replicate 16 ⟨true, false⟩ ++ [⟨true, true⟩, ⟨true, false⟩]) 16 .data dataHeld ∧
      ∀ (data : Bool) (p : Nat),
        let held : LineHeld := if data then .clock else .both
        let low : Segment := found data ((s.seg i).sees ⟨false, data⟩)
        (p = 0 → fails [⟨false, data⟩] p held low) ∧
        (p ≤ 15 → fails (List.replicate (p + 1) ⟨true, false⟩ ++ [⟨false, data⟩]) p held low) ∧
        (p ≤ 16 → fails (List.replicate p ⟨true, false⟩ ++ [⟨true, true⟩, ⟨false, data⟩]) p held low)
end

