-- ==== Sys2Proof/Laws/State.lean ====
section
/-! SUPPORT. Lemmas of the state's reads and updates: what a table shows after one entry is written, and
one lemma per field for each named update. -/

namespace Sys2Proof

/-- The entry just written is read back. -/
@[simp] theorem look_put_self {α : Type} {n : Nat} (t : Vector α n) (i : Fin n) (a : α) :
    look (put t i a) i = a := by simp [look, put]

/-- A write leaves every other entry alone. -/
theorem look_put_ne {α : Type} {n : Nat} (t : Vector α n) {i j : Fin n} (a : α) (h : i ≠ j) :
    look (put t i a) j = look t j := by
  have h' : i.val ≠ j.val := fun e => h (Fin.ext e)
  simp [look, put, h']

/-- A write seen from any entry. -/
theorem look_put {α : Type} {n : Nat} (t : Vector α n) (i j : Fin n) (a : α) :
    look (put t i a) j = if i = j then a else look t j := by
  by_cases h : i = j
  · subst h; simp
  · simp [h, look_put_ne t a h]

/-- A table of one repeated item. -/
@[simp] theorem look_replicate {α : Type} {n : Nat} (a : α) (i : Fin n) :
    look (Vector.replicate n a) i = a := by simp [look]

/-- A table mapped over. -/
@[simp] theorem look_map {α β : Type} {n : Nat} (f : α → β) (t : Vector α n) (i : Fin n) :
    look (t.map f) i = f (look t i) := by simp [look]

/-- The last write of an entry is the one that stays. -/
@[simp] theorem put_put {α : Type} {n : Nat} (t : Vector α n) (i : Fin n) (a b : α) :
    put (put t i a) i b = put t i b := by simp [put]

/-- Writing an entry as it stands changes nothing. -/
@[simp] theorem put_look {α : Type} {n : Nat} (t : Vector α n) (i : Fin n) : put t i (look t i) = t := by
  simp [put, look]

namespace Machine

@[simp] theorem State.putEntry_pending (s : State) (lt : LtId) (e : MapEntry) :
    (s.putEntry lt e).pending = s.pending := rfl
@[simp] theorem State.putEntry_port (s : State) (lt : LtId) (e : MapEntry) :
    (s.putEntry lt e).port = s.port := rfl
@[simp] theorem State.putEntry_timebase (s : State) (lt : LtId) (e : MapEntry) :
    (s.putEntry lt e).timebase = s.timebase := rfl
@[simp] theorem State.putEntry_irq (s : State) (lt : LtId) (e : MapEntry) :
    (s.putEntry lt e).irq = s.irq := rfl
@[simp] theorem State.putEntry_groups (s : State) (lt : LtId) (e : MapEntry) :
    (s.putEntry lt e).groups = s.groups := rfl
@[simp] theorem State.putEntry_rq (s : State) (lt : LtId) (e : MapEntry) :
    (s.putEntry lt e).rq = s.rq := rfl
@[simp] theorem State.putEntry_paused (s : State) (lt : LtId) (e : MapEntry) :
    (s.putEntry lt e).paused = s.paused := rfl
@[simp] theorem State.putEntry_contexts (s : State) (lt : LtId) (e : MapEntry) :
    (s.putEntry lt e).contexts = s.contexts := rfl
@[simp] theorem State.putEntry_slots (s : State) (lt : LtId) (e : MapEntry) :
    (s.putEntry lt e).slots = s.slots := rfl
@[simp] theorem State.putEntry_segs (s : State) (lt : LtId) (e : MapEntry) :
    (s.putEntry lt e).segs = s.segs := rfl
@[simp] theorem State.putEntry_survey (s : State) (lt : LtId) (e : MapEntry) :
    (s.putEntry lt e).survey = s.survey := rfl
@[simp] theorem State.putEntry_mirror (s : State) (lt : LtId) (e : MapEntry) :
    (s.putEntry lt e).mirror = s.mirror := rfl
@[simp] theorem State.putEntry_completion (s : State) (lt : LtId) (e : MapEntry) :
    (s.putEntry lt e).completion = s.completion := rfl
@[simp] theorem State.putEntry_notices (s : State) (lt : LtId) (e : MapEntry) :
    (s.putEntry lt e).notices = s.notices := rfl

@[simp] theorem State.putSeg_pending (s : State) (i : SegId) (g : Segment) :
    (s.putSeg i g).pending = s.pending := rfl
@[simp] theorem State.putSeg_port (s : State) (i : SegId) (g : Segment) :
    (s.putSeg i g).port = s.port := rfl
@[simp] theorem State.putSeg_timebase (s : State) (i : SegId) (g : Segment) :
    (s.putSeg i g).timebase = s.timebase := rfl
@[simp] theorem State.putSeg_irq (s : State) (i : SegId) (g : Segment) :
    (s.putSeg i g).irq = s.irq := rfl
@[simp] theorem State.putSeg_map (s : State) (i : SegId) (g : Segment) :
    (s.putSeg i g).map = s.map := rfl
@[simp] theorem State.putSeg_groups (s : State) (i : SegId) (g : Segment) :
    (s.putSeg i g).groups = s.groups := rfl
@[simp] theorem State.putSeg_rq (s : State) (i : SegId) (g : Segment) :
    (s.putSeg i g).rq = s.rq := rfl
@[simp] theorem State.putSeg_paused (s : State) (i : SegId) (g : Segment) :
    (s.putSeg i g).paused = s.paused := rfl
@[simp] theorem State.putSeg_contexts (s : State) (i : SegId) (g : Segment) :
    (s.putSeg i g).contexts = s.contexts := rfl
@[simp] theorem State.putSeg_slots (s : State) (i : SegId) (g : Segment) :
    (s.putSeg i g).slots = s.slots := rfl
@[simp] theorem State.putSeg_survey (s : State) (i : SegId) (g : Segment) :
    (s.putSeg i g).survey = s.survey := rfl
@[simp] theorem State.putSeg_mirror (s : State) (i : SegId) (g : Segment) :
    (s.putSeg i g).mirror = s.mirror := rfl
@[simp] theorem State.putSeg_completion (s : State) (i : SegId) (g : Segment) :
    (s.putSeg i g).completion = s.completion := rfl
@[simp] theorem State.putSeg_notices (s : State) (i : SegId) (g : Segment) :
    (s.putSeg i g).notices = s.notices := rfl

@[simp] theorem State.putSlot_pending (s : State) (k : SlotId) (o : Option OpSlot) :
    (s.putSlot k o).pending = s.pending := rfl
@[simp] theorem State.putSlot_port (s : State) (k : SlotId) (o : Option OpSlot) :
    (s.putSlot k o).port = s.port := rfl
@[simp] theorem State.putSlot_timebase (s : State) (k : SlotId) (o : Option OpSlot) :
    (s.putSlot k o).timebase = s.timebase := rfl
@[simp] theorem State.putSlot_irq (s : State) (k : SlotId) (o : Option OpSlot) :
    (s.putSlot k o).irq = s.irq := rfl
@[simp] theorem State.putSlot_map (s : State) (k : SlotId) (o : Option OpSlot) :
    (s.putSlot k o).map = s.map := rfl
@[simp] theorem State.putSlot_groups (s : State) (k : SlotId) (o : Option OpSlot) :
    (s.putSlot k o).groups = s.groups := rfl
@[simp] theorem State.putSlot_rq (s : State) (k : SlotId) (o : Option OpSlot) :
    (s.putSlot k o).rq = s.rq := rfl
@[simp] theorem State.putSlot_paused (s : State) (k : SlotId) (o : Option OpSlot) :
    (s.putSlot k o).paused = s.paused := rfl
@[simp] theorem State.putSlot_contexts (s : State) (k : SlotId) (o : Option OpSlot) :
    (s.putSlot k o).contexts = s.contexts := rfl
@[simp] theorem State.putSlot_segs (s : State) (k : SlotId) (o : Option OpSlot) :
    (s.putSlot k o).segs = s.segs := rfl
@[simp] theorem State.putSlot_survey (s : State) (k : SlotId) (o : Option OpSlot) :
    (s.putSlot k o).survey = s.survey := rfl
@[simp] theorem State.putSlot_mirror (s : State) (k : SlotId) (o : Option OpSlot) :
    (s.putSlot k o).mirror = s.mirror := rfl
@[simp] theorem State.putSlot_completion (s : State) (k : SlotId) (o : Option OpSlot) :
    (s.putSlot k o).completion = s.completion := rfl
@[simp] theorem State.putSlot_notices (s : State) (k : SlotId) (o : Option OpSlot) :
    (s.putSlot k o).notices = s.notices := rfl

@[simp] theorem State.putCtx_pending (s : State) (c : CtxId) (x : Option Context) :
    (s.putCtx c x).pending = s.pending := rfl
@[simp] theorem State.putCtx_port (s : State) (c : CtxId) (x : Option Context) :
    (s.putCtx c x).port = s.port := rfl
@[simp] theorem State.putCtx_timebase (s : State) (c : CtxId) (x : Option Context) :
    (s.putCtx c x).timebase = s.timebase := rfl
@[simp] theorem State.putCtx_irq (s : State) (c : CtxId) (x : Option Context) :
    (s.putCtx c x).irq = s.irq := rfl
@[simp] theorem State.putCtx_map (s : State) (c : CtxId) (x : Option Context) :
    (s.putCtx c x).map = s.map := rfl
@[simp] theorem State.putCtx_groups (s : State) (c : CtxId) (x : Option Context) :
    (s.putCtx c x).groups = s.groups := rfl
@[simp] theorem State.putCtx_rq (s : State) (c : CtxId) (x : Option Context) :
    (s.putCtx c x).rq = s.rq := rfl
@[simp] theorem State.putCtx_paused (s : State) (c : CtxId) (x : Option Context) :
    (s.putCtx c x).paused = s.paused := rfl
@[simp] theorem State.putCtx_slots (s : State) (c : CtxId) (x : Option Context) :
    (s.putCtx c x).slots = s.slots := rfl
@[simp] theorem State.putCtx_segs (s : State) (c : CtxId) (x : Option Context) :
    (s.putCtx c x).segs = s.segs := rfl
@[simp] theorem State.putCtx_survey (s : State) (c : CtxId) (x : Option Context) :
    (s.putCtx c x).survey = s.survey := rfl
@[simp] theorem State.putCtx_mirror (s : State) (c : CtxId) (x : Option Context) :
    (s.putCtx c x).mirror = s.mirror := rfl
@[simp] theorem State.putCtx_completion (s : State) (c : CtxId) (x : Option Context) :
    (s.putCtx c x).completion = s.completion := rfl
@[simp] theorem State.putCtx_notices (s : State) (c : CtxId) (x : Option Context) :
    (s.putCtx c x).notices = s.notices := rfl

@[simp] theorem State.putSv_pending (s : State) (n : SvId) (e : SurveyEntry) :
    (s.putSv n e).pending = s.pending := rfl
@[simp] theorem State.putSv_port (s : State) (n : SvId) (e : SurveyEntry) :
    (s.putSv n e).port = s.port := rfl
@[simp] theorem State.putSv_timebase (s : State) (n : SvId) (e : SurveyEntry) :
    (s.putSv n e).timebase = s.timebase := rfl
@[simp] theorem State.putSv_irq (s : State) (n : SvId) (e : SurveyEntry) :
    (s.putSv n e).irq = s.irq := rfl
@[simp] theorem State.putSv_map (s : State) (n : SvId) (e : SurveyEntry) :
    (s.putSv n e).map = s.map := rfl
@[simp] theorem State.putSv_groups (s : State) (n : SvId) (e : SurveyEntry) :
    (s.putSv n e).groups = s.groups := rfl
@[simp] theorem State.putSv_rq (s : State) (n : SvId) (e : SurveyEntry) :
    (s.putSv n e).rq = s.rq := rfl
@[simp] theorem State.putSv_paused (s : State) (n : SvId) (e : SurveyEntry) :
    (s.putSv n e).paused = s.paused := rfl
@[simp] theorem State.putSv_contexts (s : State) (n : SvId) (e : SurveyEntry) :
    (s.putSv n e).contexts = s.contexts := rfl
@[simp] theorem State.putSv_slots (s : State) (n : SvId) (e : SurveyEntry) :
    (s.putSv n e).slots = s.slots := rfl
@[simp] theorem State.putSv_segs (s : State) (n : SvId) (e : SurveyEntry) :
    (s.putSv n e).segs = s.segs := rfl
@[simp] theorem State.putSv_mirror (s : State) (n : SvId) (e : SurveyEntry) :
    (s.putSv n e).mirror = s.mirror := rfl
@[simp] theorem State.putSv_completion (s : State) (n : SvId) (e : SurveyEntry) :
    (s.putSv n e).completion = s.completion := rfl
@[simp] theorem State.putSv_notices (s : State) (n : SvId) (e : SurveyEntry) :
    (s.putSv n e).notices = s.notices := rfl

@[simp] theorem State.putMirror_pending (s : State) (n : SvId) (m : MirrorSlot) :
    (s.putMirror n m).pending = s.pending := rfl
@[simp] theorem State.putMirror_port (s : State) (n : SvId) (m : MirrorSlot) :
    (s.putMirror n m).port = s.port := rfl
@[simp] theorem State.putMirror_timebase (s : State) (n : SvId) (m : MirrorSlot) :
    (s.putMirror n m).timebase = s.timebase := rfl
@[simp] theorem State.putMirror_irq (s : State) (n : SvId) (m : MirrorSlot) :
    (s.putMirror n m).irq = s.irq := rfl
@[simp] theorem State.putMirror_map (s : State) (n : SvId) (m : MirrorSlot) :
    (s.putMirror n m).map = s.map := rfl
@[simp] theorem State.putMirror_groups (s : State) (n : SvId) (m : MirrorSlot) :
    (s.putMirror n m).groups = s.groups := rfl
@[simp] theorem State.putMirror_rq (s : State) (n : SvId) (m : MirrorSlot) :
    (s.putMirror n m).rq = s.rq := rfl
@[simp] theorem State.putMirror_paused (s : State) (n : SvId) (m : MirrorSlot) :
    (s.putMirror n m).paused = s.paused := rfl
@[simp] theorem State.putMirror_contexts (s : State) (n : SvId) (m : MirrorSlot) :
    (s.putMirror n m).contexts = s.contexts := rfl
@[simp] theorem State.putMirror_slots (s : State) (n : SvId) (m : MirrorSlot) :
    (s.putMirror n m).slots = s.slots := rfl
@[simp] theorem State.putMirror_segs (s : State) (n : SvId) (m : MirrorSlot) :
    (s.putMirror n m).segs = s.segs := rfl
@[simp] theorem State.putMirror_survey (s : State) (n : SvId) (m : MirrorSlot) :
    (s.putMirror n m).survey = s.survey := rfl
@[simp] theorem State.putMirror_completion (s : State) (n : SvId) (m : MirrorSlot) :
    (s.putMirror n m).completion = s.completion := rfl
@[simp] theorem State.putMirror_notices (s : State) (n : SvId) (m : MirrorSlot) :
    (s.putMirror n m).notices = s.notices := rfl

@[simp] theorem State.putSegState_pending (s : State) (i : SegId) (st : SegState) :
    (s.putSegState i st).pending = s.pending := rfl
@[simp] theorem State.putSegState_port (s : State) (i : SegId) (st : SegState) :
    (s.putSegState i st).port = s.port := rfl
@[simp] theorem State.putSegState_timebase (s : State) (i : SegId) (st : SegState) :
    (s.putSegState i st).timebase = s.timebase := rfl
@[simp] theorem State.putSegState_irq (s : State) (i : SegId) (st : SegState) :
    (s.putSegState i st).irq = s.irq := rfl
@[simp] theorem State.putSegState_map (s : State) (i : SegId) (st : SegState) :
    (s.putSegState i st).map = s.map := rfl
@[simp] theorem State.putSegState_groups (s : State) (i : SegId) (st : SegState) :
    (s.putSegState i st).groups = s.groups := rfl
@[simp] theorem State.putSegState_rq (s : State) (i : SegId) (st : SegState) :
    (s.putSegState i st).rq = s.rq := rfl
@[simp] theorem State.putSegState_paused (s : State) (i : SegId) (st : SegState) :
    (s.putSegState i st).paused = s.paused := rfl
@[simp] theorem State.putSegState_contexts (s : State) (i : SegId) (st : SegState) :
    (s.putSegState i st).contexts = s.contexts := rfl
@[simp] theorem State.putSegState_slots (s : State) (i : SegId) (st : SegState) :
    (s.putSegState i st).slots = s.slots := rfl
@[simp] theorem State.putSegState_survey (s : State) (i : SegId) (st : SegState) :
    (s.putSegState i st).survey = s.survey := rfl
@[simp] theorem State.putSegState_mirror (s : State) (i : SegId) (st : SegState) :
    (s.putSegState i st).mirror = s.mirror := rfl
@[simp] theorem State.putSegState_completion (s : State) (i : SegId) (st : SegState) :
    (s.putSegState i st).completion = s.completion := rfl
@[simp] theorem State.putSegState_notices (s : State) (i : SegId) (st : SegState) :
    (s.putSegState i st).notices = s.notices := rfl

@[simp] theorem State.putSvRun_pending (s : State) (n : SvId) (r : SurveyRun) :
    (s.putSvRun n r).pending = s.pending := rfl
@[simp] theorem State.putSvRun_port (s : State) (n : SvId) (r : SurveyRun) :
    (s.putSvRun n r).port = s.port := rfl
@[simp] theorem State.putSvRun_timebase (s : State) (n : SvId) (r : SurveyRun) :
    (s.putSvRun n r).timebase = s.timebase := rfl
@[simp] theorem State.putSvRun_irq (s : State) (n : SvId) (r : SurveyRun) :
    (s.putSvRun n r).irq = s.irq := rfl
@[simp] theorem State.putSvRun_map (s : State) (n : SvId) (r : SurveyRun) :
    (s.putSvRun n r).map = s.map := rfl
@[simp] theorem State.putSvRun_groups (s : State) (n : SvId) (r : SurveyRun) :
    (s.putSvRun n r).groups = s.groups := rfl
@[simp] theorem State.putSvRun_rq (s : State) (n : SvId) (r : SurveyRun) :
    (s.putSvRun n r).rq = s.rq := rfl
@[simp] theorem State.putSvRun_paused (s : State) (n : SvId) (r : SurveyRun) :
    (s.putSvRun n r).paused = s.paused := rfl
@[simp] theorem State.putSvRun_contexts (s : State) (n : SvId) (r : SurveyRun) :
    (s.putSvRun n r).contexts = s.contexts := rfl
@[simp] theorem State.putSvRun_slots (s : State) (n : SvId) (r : SurveyRun) :
    (s.putSvRun n r).slots = s.slots := rfl
@[simp] theorem State.putSvRun_segs (s : State) (n : SvId) (r : SurveyRun) :
    (s.putSvRun n r).segs = s.segs := rfl
@[simp] theorem State.putSvRun_mirror (s : State) (n : SvId) (r : SurveyRun) :
    (s.putSvRun n r).mirror = s.mirror := rfl
@[simp] theorem State.putSvRun_completion (s : State) (n : SvId) (r : SurveyRun) :
    (s.putSvRun n r).completion = s.completion := rfl
@[simp] theorem State.putSvRun_notices (s : State) (n : SvId) (r : SurveyRun) :
    (s.putSvRun n r).notices = s.notices := rfl

@[simp] theorem State.entry_putEntry_self (s : State) (x : LtId) (e : MapEntry) : (s.putEntry x e).entry x = e := by
  simp [State.entry, State.putEntry]
theorem State.entry_putEntry (s : State) (x y : LtId) (e : MapEntry) :
    (s.putEntry x e).entry y = if x = y then e else s.entry y := by
  simp [State.entry, State.putEntry, look_put]
@[simp] theorem State.entry_putSeg_read (s : State) (i : SegId) (g : Segment) (y : LtId) :
    (s.putSeg i g).entry y = s.entry y := rfl
@[simp] theorem State.entry_putSlot_read (s : State) (k : SlotId) (o : Option OpSlot) (y : LtId) :
    (s.putSlot k o).entry y = s.entry y := rfl
@[simp] theorem State.entry_putCtx_read (s : State) (c : CtxId) (x : Option Context) (y : LtId) :
    (s.putCtx c x).entry y = s.entry y := rfl
@[simp] theorem State.entry_putSv_read (s : State) (n : SvId) (e : SurveyEntry) (y : LtId) :
    (s.putSv n e).entry y = s.entry y := rfl
@[simp] theorem State.entry_putMirror_read (s : State) (n : SvId) (m : MirrorSlot) (y : LtId) :
    (s.putMirror n m).entry y = s.entry y := rfl
@[simp] theorem State.entry_putSegState_read (s : State) (i : SegId) (st : SegState) (y : LtId) :
    (s.putSegState i st).entry y = s.entry y := rfl
@[simp] theorem State.entry_putSvRun_read (s : State) (n : SvId) (r : SurveyRun) (y : LtId) :
    (s.putSvRun n r).entry y = s.entry y := rfl

@[simp] theorem State.seg_putSeg_self (s : State) (x : SegId) (e : Segment) : (s.putSeg x e).seg x = e := by
  simp [State.seg, State.putSeg]
theorem State.seg_putSeg (s : State) (x y : SegId) (e : Segment) :
    (s.putSeg x e).seg y = if x = y then e else s.seg y := by
  simp [State.seg, State.putSeg, look_put]
@[simp] theorem State.seg_putEntry_read (s : State) (lt : LtId) (e : MapEntry) (y : SegId) :
    (s.putEntry lt e).seg y = s.seg y := rfl
@[simp] theorem State.seg_putSlot_read (s : State) (k : SlotId) (o : Option OpSlot) (y : SegId) :
    (s.putSlot k o).seg y = s.seg y := rfl
@[simp] theorem State.seg_putCtx_read (s : State) (c : CtxId) (x : Option Context) (y : SegId) :
    (s.putCtx c x).seg y = s.seg y := rfl
@[simp] theorem State.seg_putSv_read (s : State) (n : SvId) (e : SurveyEntry) (y : SegId) :
    (s.putSv n e).seg y = s.seg y := rfl
@[simp] theorem State.seg_putMirror_read (s : State) (n : SvId) (m : MirrorSlot) (y : SegId) :
    (s.putMirror n m).seg y = s.seg y := rfl
@[simp] theorem State.seg_putSvRun_read (s : State) (n : SvId) (r : SurveyRun) (y : SegId) :
    (s.putSvRun n r).seg y = s.seg y := rfl

@[simp] theorem State.slot_putSlot_self (s : State) (x : SlotId) (e : Option OpSlot) : (s.putSlot x e).slot x = e := by
  simp [State.slot, State.putSlot]
theorem State.slot_putSlot (s : State) (x y : SlotId) (e : Option OpSlot) :
    (s.putSlot x e).slot y = if x = y then e else s.slot y := by
  simp [State.slot, State.putSlot, look_put]
@[simp] theorem State.slot_putEntry_read (s : State) (lt : LtId) (e : MapEntry) (y : SlotId) :
    (s.putEntry lt e).slot y = s.slot y := rfl
@[simp] theorem State.slot_putSeg_read (s : State) (i : SegId) (g : Segment) (y : SlotId) :
    (s.putSeg i g).slot y = s.slot y := rfl
@[simp] theorem State.slot_putCtx_read (s : State) (c : CtxId) (x : Option Context) (y : SlotId) :
    (s.putCtx c x).slot y = s.slot y := rfl
@[simp] theorem State.slot_putSv_read (s : State) (n : SvId) (e : SurveyEntry) (y : SlotId) :
    (s.putSv n e).slot y = s.slot y := rfl
@[simp] theorem State.slot_putMirror_read (s : State) (n : SvId) (m : MirrorSlot) (y : SlotId) :
    (s.putMirror n m).slot y = s.slot y := rfl
@[simp] theorem State.slot_putSegState_read (s : State) (i : SegId) (st : SegState) (y : SlotId) :
    (s.putSegState i st).slot y = s.slot y := rfl
@[simp] theorem State.slot_putSvRun_read (s : State) (n : SvId) (r : SurveyRun) (y : SlotId) :
    (s.putSvRun n r).slot y = s.slot y := rfl

@[simp] theorem State.ctx_putCtx_self (s : State) (x : CtxId) (e : Option Context) : (s.putCtx x e).ctx x = e := by
  simp [State.ctx, State.putCtx]
theorem State.ctx_putCtx (s : State) (x y : CtxId) (e : Option Context) :
    (s.putCtx x e).ctx y = if x = y then e else s.ctx y := by
  simp [State.ctx, State.putCtx, look_put]
@[simp] theorem State.ctx_putEntry_read (s : State) (lt : LtId) (e : MapEntry) (y : CtxId) :
    (s.putEntry lt e).ctx y = s.ctx y := rfl
@[simp] theorem State.ctx_putSeg_read (s : State) (i : SegId) (g : Segment) (y : CtxId) :
    (s.putSeg i g).ctx y = s.ctx y := rfl
@[simp] theorem State.ctx_putSlot_read (s : State) (k : SlotId) (o : Option OpSlot) (y : CtxId) :
    (s.putSlot k o).ctx y = s.ctx y := rfl
@[simp] theorem State.ctx_putSv_read (s : State) (n : SvId) (e : SurveyEntry) (y : CtxId) :
    (s.putSv n e).ctx y = s.ctx y := rfl
@[simp] theorem State.ctx_putMirror_read (s : State) (n : SvId) (m : MirrorSlot) (y : CtxId) :
    (s.putMirror n m).ctx y = s.ctx y := rfl
@[simp] theorem State.ctx_putSegState_read (s : State) (i : SegId) (st : SegState) (y : CtxId) :
    (s.putSegState i st).ctx y = s.ctx y := rfl
@[simp] theorem State.ctx_putSvRun_read (s : State) (n : SvId) (r : SurveyRun) (y : CtxId) :
    (s.putSvRun n r).ctx y = s.ctx y := rfl

@[simp] theorem State.sv_putSv_self (s : State) (x : SvId) (e : SurveyEntry) : (s.putSv x e).sv x = e := by
  simp [State.sv, State.putSv]
theorem State.sv_putSv (s : State) (x y : SvId) (e : SurveyEntry) :
    (s.putSv x e).sv y = if x = y then e else s.sv y := by
  simp [State.sv, State.putSv, look_put]
@[simp] theorem State.sv_putEntry_read (s : State) (lt : LtId) (e : MapEntry) (y : SvId) :
    (s.putEntry lt e).sv y = s.sv y := rfl
@[simp] theorem State.sv_putSeg_read (s : State) (i : SegId) (g : Segment) (y : SvId) :
    (s.putSeg i g).sv y = s.sv y := rfl
@[simp] theorem State.sv_putSlot_read (s : State) (k : SlotId) (o : Option OpSlot) (y : SvId) :
    (s.putSlot k o).sv y = s.sv y := rfl
@[simp] theorem State.sv_putCtx_read (s : State) (c : CtxId) (x : Option Context) (y : SvId) :
    (s.putCtx c x).sv y = s.sv y := rfl
@[simp] theorem State.sv_putMirror_read (s : State) (n : SvId) (m : MirrorSlot) (y : SvId) :
    (s.putMirror n m).sv y = s.sv y := rfl
@[simp] theorem State.sv_putSegState_read (s : State) (i : SegId) (st : SegState) (y : SvId) :
    (s.putSegState i st).sv y = s.sv y := rfl

@[simp] theorem State.mirrorSlot_putMirror_self (s : State) (x : SvId) (e : MirrorSlot) : (s.putMirror x e).mirrorSlot x = e := by
  simp [State.mirrorSlot, State.putMirror]
theorem State.mirrorSlot_putMirror (s : State) (x y : SvId) (e : MirrorSlot) :
    (s.putMirror x e).mirrorSlot y = if x = y then e else s.mirrorSlot y := by
  simp [State.mirrorSlot, State.putMirror, look_put]
@[simp] theorem State.mirrorSlot_putEntry_read (s : State) (lt : LtId) (e : MapEntry) (y : SvId) :
    (s.putEntry lt e).mirrorSlot y = s.mirrorSlot y := rfl
@[simp] theorem State.mirrorSlot_putSeg_read (s : State) (i : SegId) (g : Segment) (y : SvId) :
    (s.putSeg i g).mirrorSlot y = s.mirrorSlot y := rfl
@[simp] theorem State.mirrorSlot_putSlot_read (s : State) (k : SlotId) (o : Option OpSlot) (y : SvId) :
    (s.putSlot k o).mirrorSlot y = s.mirrorSlot y := rfl
@[simp] theorem State.mirrorSlot_putCtx_read (s : State) (c : CtxId) (x : Option Context) (y : SvId) :
    (s.putCtx c x).mirrorSlot y = s.mirrorSlot y := rfl
@[simp] theorem State.mirrorSlot_putSv_read (s : State) (n : SvId) (e : SurveyEntry) (y : SvId) :
    (s.putSv n e).mirrorSlot y = s.mirrorSlot y := rfl
@[simp] theorem State.mirrorSlot_putSegState_read (s : State) (i : SegId) (st : SegState) (y : SvId) :
    (s.putSegState i st).mirrorSlot y = s.mirrorSlot y := rfl
@[simp] theorem State.mirrorSlot_putSvRun_read (s : State) (n : SvId) (r : SurveyRun) (y : SvId) :
    (s.putSvRun n r).mirrorSlot y = s.mirrorSlot y := rfl

/-- The heads of the latches. -/
@[simp] theorem latchMisuse_irq (s : State) :
    (latchMisuse s).irq = { s.irq with hostMisuse := true } := rfl
@[simp] theorem latchRqSpace_irq (s : State) :
    (latchRqSpace s).irq = { s.irq with rqSpace := true } := rfl
@[simp] theorem judgeIrq_irqN (s : State) : (judgeIrq s).irq.irqN = irqLevel s := rfl
@[simp] theorem judgeIrq_rqSpace (s : State) : (judgeIrq s).irq.rqSpace = s.irq.rqSpace := rfl
@[simp] theorem judgeIrq_hostMisuse (s : State) : (judgeIrq s).irq.hostMisuse = s.irq.hostMisuse := rfl
@[simp] theorem judgeIrq_enables (s : State) : (judgeIrq s).irq.enables = s.irq.enables := rfl
@[simp] theorem judgeIrq_pending (s : State) : (judgeIrq s).pending = s.pending := rfl
@[simp] theorem judgeIrq_port (s : State) : (judgeIrq s).port = s.port := rfl
@[simp] theorem judgeIrq_timebase (s : State) : (judgeIrq s).timebase = s.timebase := rfl
@[simp] theorem judgeIrq_map (s : State) : (judgeIrq s).map = s.map := rfl
@[simp] theorem judgeIrq_groups (s : State) : (judgeIrq s).groups = s.groups := rfl
@[simp] theorem judgeIrq_rq (s : State) : (judgeIrq s).rq = s.rq := rfl
@[simp] theorem judgeIrq_paused (s : State) : (judgeIrq s).paused = s.paused := rfl
@[simp] theorem judgeIrq_contexts (s : State) : (judgeIrq s).contexts = s.contexts := rfl
@[simp] theorem judgeIrq_slots (s : State) : (judgeIrq s).slots = s.slots := rfl
@[simp] theorem judgeIrq_segs (s : State) : (judgeIrq s).segs = s.segs := rfl
@[simp] theorem judgeIrq_survey (s : State) : (judgeIrq s).survey = s.survey := rfl
@[simp] theorem judgeIrq_mirror (s : State) : (judgeIrq s).mirror = s.mirror := rfl
@[simp] theorem judgeIrq_completion (s : State) : (judgeIrq s).completion = s.completion := rfl
@[simp] theorem judgeIrq_notices (s : State) : (judgeIrq s).notices = s.notices := rfl
@[simp] theorem latchMisuse_pending (s : State) : (latchMisuse s).pending = s.pending := rfl
@[simp] theorem latchMisuse_port (s : State) : (latchMisuse s).port = s.port := rfl
@[simp] theorem latchMisuse_timebase (s : State) : (latchMisuse s).timebase = s.timebase := rfl
@[simp] theorem latchMisuse_map (s : State) : (latchMisuse s).map = s.map := rfl
@[simp] theorem latchMisuse_groups (s : State) : (latchMisuse s).groups = s.groups := rfl
@[simp] theorem latchMisuse_rq (s : State) : (latchMisuse s).rq = s.rq := rfl
@[simp] theorem latchMisuse_paused (s : State) : (latchMisuse s).paused = s.paused := rfl
@[simp] theorem latchMisuse_contexts (s : State) : (latchMisuse s).contexts = s.contexts := rfl
@[simp] theorem latchMisuse_slots (s : State) : (latchMisuse s).slots = s.slots := rfl
@[simp] theorem latchMisuse_segs (s : State) : (latchMisuse s).segs = s.segs := rfl
@[simp] theorem latchMisuse_survey (s : State) : (latchMisuse s).survey = s.survey := rfl
@[simp] theorem latchMisuse_mirror (s : State) : (latchMisuse s).mirror = s.mirror := rfl
@[simp] theorem latchMisuse_completion (s : State) : (latchMisuse s).completion = s.completion := rfl
@[simp] theorem latchMisuse_notices (s : State) : (latchMisuse s).notices = s.notices := rfl
@[simp] theorem latchRqSpace_pending (s : State) : (latchRqSpace s).pending = s.pending := rfl
@[simp] theorem latchRqSpace_port (s : State) : (latchRqSpace s).port = s.port := rfl
@[simp] theorem latchRqSpace_timebase (s : State) : (latchRqSpace s).timebase = s.timebase := rfl
@[simp] theorem latchRqSpace_map (s : State) : (latchRqSpace s).map = s.map := rfl
@[simp] theorem latchRqSpace_groups (s : State) : (latchRqSpace s).groups = s.groups := rfl
@[simp] theorem latchRqSpace_rq (s : State) : (latchRqSpace s).rq = s.rq := rfl
@[simp] theorem latchRqSpace_paused (s : State) : (latchRqSpace s).paused = s.paused := rfl
@[simp] theorem latchRqSpace_contexts (s : State) : (latchRqSpace s).contexts = s.contexts := rfl
@[simp] theorem latchRqSpace_slots (s : State) : (latchRqSpace s).slots = s.slots := rfl
@[simp] theorem latchRqSpace_segs (s : State) : (latchRqSpace s).segs = s.segs := rfl
@[simp] theorem latchRqSpace_survey (s : State) : (latchRqSpace s).survey = s.survey := rfl
@[simp] theorem latchRqSpace_mirror (s : State) : (latchRqSpace s).mirror = s.mirror := rfl
@[simp] theorem latchRqSpace_completion (s : State) : (latchRqSpace s).completion = s.completion := rfl
@[simp] theorem latchRqSpace_notices (s : State) : (latchRqSpace s).notices = s.notices := rfl
@[simp] theorem answer_pending (r : CommandResult) (s : State) : (answer r s).pending = s.pending := rfl
@[simp] theorem leaving_pending (s : State) (l : List Action) : (s.leaving l).pending = s.pending := rfl
@[simp] theorem answer_timebase (r : CommandResult) (s : State) : (answer r s).timebase = s.timebase := rfl
@[simp] theorem leaving_timebase (s : State) (l : List Action) : (s.leaving l).timebase = s.timebase := rfl
@[simp] theorem answer_irq (r : CommandResult) (s : State) : (answer r s).irq = s.irq := rfl
@[simp] theorem leaving_irq (s : State) (l : List Action) : (s.leaving l).irq = s.irq := rfl
@[simp] theorem answer_map (r : CommandResult) (s : State) : (answer r s).map = s.map := rfl
@[simp] theorem leaving_map (s : State) (l : List Action) : (s.leaving l).map = s.map := rfl
@[simp] theorem answer_groups (r : CommandResult) (s : State) : (answer r s).groups = s.groups := rfl
@[simp] theorem leaving_groups (s : State) (l : List Action) : (s.leaving l).groups = s.groups := rfl
@[simp] theorem answer_rq (r : CommandResult) (s : State) : (answer r s).rq = s.rq := rfl
@[simp] theorem leaving_rq (s : State) (l : List Action) : (s.leaving l).rq = s.rq := rfl
@[simp] theorem answer_paused (r : CommandResult) (s : State) : (answer r s).paused = s.paused := rfl
@[simp] theorem leaving_paused (s : State) (l : List Action) : (s.leaving l).paused = s.paused := rfl
@[simp] theorem answer_contexts (r : CommandResult) (s : State) : (answer r s).contexts = s.contexts := rfl
@[simp] theorem leaving_contexts (s : State) (l : List Action) : (s.leaving l).contexts = s.contexts := rfl
@[simp] theorem answer_slots (r : CommandResult) (s : State) : (answer r s).slots = s.slots := rfl
@[simp] theorem leaving_slots (s : State) (l : List Action) : (s.leaving l).slots = s.slots := rfl
@[simp] theorem answer_segs (r : CommandResult) (s : State) : (answer r s).segs = s.segs := rfl
@[simp] theorem leaving_segs (s : State) (l : List Action) : (s.leaving l).segs = s.segs := rfl
@[simp] theorem answer_survey (r : CommandResult) (s : State) : (answer r s).survey = s.survey := rfl
@[simp] theorem leaving_survey (s : State) (l : List Action) : (s.leaving l).survey = s.survey := rfl
@[simp] theorem answer_mirror (r : CommandResult) (s : State) : (answer r s).mirror = s.mirror := rfl
@[simp] theorem leaving_mirror (s : State) (l : List Action) : (s.leaving l).mirror = s.mirror := rfl
@[simp] theorem answer_completion (r : CommandResult) (s : State) : (answer r s).completion = s.completion := rfl
@[simp] theorem leaving_completion (s : State) (l : List Action) : (s.leaving l).completion = s.completion := rfl
@[simp] theorem answer_notices (r : CommandResult) (s : State) : (answer r s).notices = s.notices := rfl
@[simp] theorem leaving_notices (s : State) (l : List Action) : (s.leaving l).notices = s.notices := rfl

/-! ### One entry written twice, or as it stands -/

@[simp] theorem State.putEntry_putEntry (s : State) (lt : LtId) (e f : MapEntry) :
    (s.putEntry lt e).putEntry lt f = s.putEntry lt f := by simp [State.putEntry]
@[simp] theorem State.putSeg_putSeg (s : State) (i : SegId) (g h : Segment) :
    (s.putSeg i g).putSeg i h = s.putSeg i h := by simp [State.putSeg]
@[simp] theorem State.putSlot_putSlot (s : State) (k : SlotId) (o p : Option OpSlot) :
    (s.putSlot k o).putSlot k p = s.putSlot k p := by simp [State.putSlot]
@[simp] theorem State.putCtx_putCtx (s : State) (c : CtxId) (x y : Option Context) :
    (s.putCtx c x).putCtx c y = s.putCtx c y := by simp [State.putCtx]
@[simp] theorem State.putSv_putSv (s : State) (n : SvId) (e f : SurveyEntry) :
    (s.putSv n e).putSv n f = s.putSv n f := by simp [State.putSv]
@[simp] theorem State.putEntry_entry (s : State) (lt : LtId) : s.putEntry lt (s.entry lt) = s := by
  simp [State.putEntry, State.entry]
@[simp] theorem State.putSeg_seg (s : State) (i : SegId) : s.putSeg i (s.seg i) = s := by
  simp [State.putSeg, State.seg]
@[simp] theorem State.putSlot_slot (s : State) (k : SlotId) : s.putSlot k (s.slot k) = s := by
  simp [State.putSlot, State.slot]
@[simp] theorem State.putCtx_ctx (s : State) (c : CtxId) : s.putCtx c (s.ctx c) = s := by
  simp [State.putCtx, State.ctx]
@[simp] theorem State.putSv_sv (s : State) (n : SvId) : s.putSv n (s.sv n) = s := by
  simp [State.putSv, State.sv]

end Machine

end Sys2Proof
end

