-- ==== Sys2Proof/Laws/Commands.lean ====
section
/-! SUPPORT. What the shared operations do where there is nothing to do: an action or a command at hand is
taken, a dispatcher without a QUEUED entry examines nothing, a segment that is not IDLE grants nothing, a
completion unit with room posts at once. Beside them what a grant leaves of its segment, and where a read
frame takes a capture. -/

namespace Sys2Proof.Machine

/-! ### Actions and commands at hand -/

/-- R179: an action at hand is taken on the state with the actions behind it. -/
theorem takeAction_at {s : State} {a : Action} {rest : List Action} (f : State → State)
    (h : s.atAction a rest) : takeAction a f s = f (s.leaving rest) := by
  unfold State.atAction at h
  unfold takeAction
  rw [h]
  simp [State.leaving]

/-- R182: a control command at hand is taken on the state with the actions behind it. -/
theorem takeCommand_at {s : State} {c : Byte} {rest : List Action} (code : Byte → Bool)
    (f : State → State) (h : s.atCommand c rest) (hc : code c = true) :
    takeCommand code f s = f (s.leaving rest) := by
  unfold takeCommand
  rw [h.1, if_pos hc, takeAction_at f h.2]

/-- R182: an answer is COMMAND_RESULT written. -/
theorem answer_eq (r : CommandResult) (s : State) : answer r s = s.answered r := rfl

/-! ### Folds over the survey entries -/

/-- A step that leaves every entry alone leaves the state alone. -/
theorem foldl_still {α β : Type} (f : β → α → α) (a : α) :
    ∀ l : List β, (∀ b ∈ l, f b a = a) → l.foldl (fun t b => f b t) a = a
  | [], _ => rfl
  | b :: l, h => by
    rw [List.foldl_cons, h b (by simp)]
    exact foldl_still f a l fun c hc => h c (by simp [hc])

/-- The same, over the 32 survey entries. -/
theorem forSurvey_still {f : SvId → State → State} {s : State} (h : ∀ n, f n s = s) :
    forSurvey f s = s := foldl_still f s _ fun n _ => h n

/-! ### The dispatcher at rest -/

/-- R44: without a QUEUED entry there is no candidate. -/
theorem candidate_noneQueued {s : State} (h : s.noneQueued) : candidate s = none := by
  have h1 : (s.rq.find? fun e => e.queued && e.request.priority == .urgent) = none :=
    List.find?_eq_none.2 fun e he => by simp [h e he]
  have h2 : (s.rq.find? fun e => e.queued && e.request.priority == .normal) = none :=
    List.find?_eq_none.2 fun e he => by simp [h e he]
  unfold candidate
  rw [h1, h2]
  simp

/-- R45: without a QUEUED entry an examination does nothing. -/
theorem examine_noneQueued {s : State} (h : s.noneQueued) : examine s = s := by
  unfold examine
  cases s.rq.length with
  | zero => rfl
  | succ n => simp [examineUpTo, examineOnce, candidate_noneQueued h]

/-- R43, R45: a PAUSED dispatcher examines nothing. -/
theorem examine_paused {s : State} (h : s.paused = true) : examine s = s := by
  unfold examine
  cases s.rq.length with
  | zero => rfl
  | succ n => simp [examineUpTo, examineOnce, candidate, h]

/-! ### Grant opportunities at rest -/

/-- R92: a segment that is not IDLE grants nothing. -/
theorem arbitrate_notIdle {s : State} {i : SegId} (h : (s.seg i).state ≠ .idle) : arbitrate i s = s := by
  unfold arbitrate State.segState
  cases hs : (s.seg i).state <;> simp_all [SegState.isIdle]

/-- R92: nor has a grant opportunity of it any effect. -/
theorem opportunity_notIdle {s : State} {i : SegId} (h : (s.seg i).state ≠ .idle) :
    opportunity i s = s := by
  unfold opportunity
  rw [arbitrate_notIdle h]
  simp

/-- R119, R120: lines that are free pass the stuck-line check. -/
theorem stuckCheck_linesFree {g : Segment} (h : g.linesFree) : stuckCheckFails g = false := by
  have h1 := h g.clockLine (by simp)
  have h2 := h g.dataLine (by simp)
  cases hc : g.clockLine.high <;> cases hd : g.dataLine.high <;>
    simp_all [stuckCheckFails, Line.heldLow, Config.ticksPerMs]
  · exact ⟨decide_eq_false (by omega), decide_eq_false (by omega)⟩
  · exact decide_eq_false (by omega)
  · exact decide_eq_false (by omega)

/-- R119, R120: lines that are not free fail it. -/
theorem stuckCheck_lineHeld {g : Segment} (h : ¬ g.linesFree) : stuckCheckFails g = true := by
  cases hc : g.clockLine.high <;> cases hd : g.dataLine.high <;>
    simp_all [stuckCheckFails, Line.heldLow, Config.ticksPerMs, Segment.linesFree]
  by_cases hx : g.config.stuckTime * 10 ≤ g.clockLine.steady
  · exact .inl (decide_eq_true hx)
  · exact .inr (decide_eq_true (h (by omega)))

/-- R76, R120: what a grant leaves of the segment, started at once or waiting for the bus. -/
theorem beginWork_eq (i : SegId) (w : Work) (lt : Option LtId) (script : List BusItem) (s : State) :
    beginWork i w lt script s = s.putSeg i ((s.seg i).granted w lt script) := by
  unfold beginWork Segment.granted Segment.canStart StopRequest.none Line.fallen
  simp only [Bool.and_eq_true, and_assoc]
  split <;> rfl

/-- R94: with nothing waiting the arbiter chooses nothing. -/
theorem choose_noWork {s : State} {i : SegId} (h : (s.seg i).noWork) : choose i s = none := by
  obtain ⟨hp, hd, ha⟩ := h
  have hc : alertCalled (s.seg i) = false := by
    cases h : alertCalled (s.seg i) with
    | false => rfl
    | true => exact absurd (by simpa [alertCalled, and_assoc] using h) ha
  simp [choose, chooseHostFirst, eligible, eligibleFrom, hc, hp, hd]

/-- R92, R93: an IDLE segment with free lines and nothing waiting grants nothing. -/
theorem opportunity_noWork {s : State} {i : SegId} (hl : (s.seg i).linesFree) (h : (s.seg i).noWork) :
    opportunity i s = s := by
  have : arbitrate i s = s := by
    unfold arbitrate
    rw [stuckCheck_linesFree hl, choose_noWork h]
    simp
  simp [opportunity, this]

/-! ### Posting -/

/-- R174: what posting a notice does, whether the NQ has room or not. -/
theorem postNotice_eq (b : NoticeBody) (s : State) : postNotice b s = s.withNotice b := by
  by_cases h : s.notices.nq.length < 16 <;>
    simp [postNotice, State.withNotice, Config.nqCapacity, Config.byteCeiling, State.now, h]

/-- R135, R137: a finished context alone before an open CQ is freed and its record joins. -/
theorem finishContext_open {s : State} (c : CtxId) (x : Context) (h : s.postingOpen) :
    finishContext c x s = (s.putCtx c none).withRecord
      (contextRecord x ⟨contextStatus x, s.timebase.time, contextBytesAcked x⟩) := by
  obtain ⟨h1, h2⟩ := h
  simp only [finishContext, joinPosting, postAll, State.putCtx_completion, h1, List.nil_append,
    postFrom, Config.cqCapacity, h2, if_true]
  simp only [postItem, State.ctx, State.putCtx, look_put_self]
  simp [State.withRecord, pushRecord, State.now, put, h1, contextRecord, contextStatus,
    contextBytesAcked, Context.doneMembers, Context.failedMembers]

/-- R138, R175, R178, R181: where a read frame takes a capture. -/
theorem captureDue_iff (s : State) (a : WinAddr) : s.port.captureDue a = true ↔ s.capturesAt a := by
  have key (n : SvId) : a.toNat / 16 = 32 + n.val ↔ isMirrorAddr a = true ∧ n = mirrorIndex a := by
    have := a.isLt
    simp only [isMirrorAddr, decide_eq_true_eq, mirrorIndex, Fin.ext_iff]
    omega
  have apart : (isTimeAddr a = true → isCompletionAddr a = false) ∧
      (isTimeAddr a = true ∨ isCompletionAddr a = true → isNoticeAddr a = false) ∧
      (isTimeAddr a = true ∨ isCompletionAddr a = true ∨ isNoticeAddr a = true →
        isMirrorAddr a = false) := by
    simp only [isTimeAddr, isCompletionAddr, isNoticeAddr, isMirrorAddr, Bool.or_eq_true, beq_iff_eq,
      Bool.and_eq_true, Bool.and_eq_false_iff, decide_eq_true_eq, decide_eq_false_iff_not]
    omega
  unfold HostPort.captureDue State.capturesAt
  simp only [key]
  cases h1 : isTimeAddr a <;> cases h2 : isCompletionAddr a <;> cases h3 : isNoticeAddr a <;>
    cases h4 : isMirrorAddr a <;> simp_all

end Sys2Proof.Machine
end

