-- ==== Sys2Proof/Laws/EngineFrame.lean ====
section
/-! SUPPORT. What each shared operation leaves alone: one EngineFrame lemma per operation, from the single
writes up to the end of a transaction. -/

namespace Sys2Proof.Machine

/-! ### Lists of tags -/

theorem filterMap_set_none {α β : Type} (f : α → Option β) (a : α) (ha : f a = none) :
    ∀ (l : List α) (i : Nat), ((l.set i a).filterMap f).Sublist (l.filterMap f)
  | [], _ => by simp
  | x :: xs, 0 => by
    rw [List.set_cons_zero, List.filterMap_cons_none ha, List.filterMap_cons]
    cases f x <;> simp
  | x :: xs, i + 1 => by
    rw [List.set_cons_succ, List.filterMap_cons, List.filterMap_cons]
    cases f x
    · exact filterMap_set_none f a ha xs i
    · exact (filterMap_set_none f a ha xs i).cons_cons _

theorem filterMap_set_same {α β : Type} (f : α → Option β) (a : α) :
    ∀ (l : List α) (i : Nat) (h : i < l.length), f a = f l[i] → (l.set i a).filterMap f = l.filterMap f
  | x :: xs, 0, _, e => by simp_all [List.filterMap_cons]
  | x :: xs, i + 1, h, e => by
    have := filterMap_set_same f a xs i (by simpa using h) (by simpa using e)
    simp [List.filterMap_cons, this]

theorem filterMap_set_new {α β : Type} (f : α → Option β) (a : α) (b : β) (ha : f a = some b) :
    ∀ (l : List α) (i : Nat) (h : i < l.length), f l[i] = none →
      ((l.set i a).filterMap f).Perm (b :: l.filterMap f)
  | x :: xs, 0, _, e => by
    have e' : f x = none := by simpa using e
    simp [ha, e']
  | x :: xs, i + 1, h, e => by
    have ih := filterMap_set_new f a b ha xs i (by simpa using h) (by simpa using e)
    rw [List.set_cons_succ, List.filterMap_cons, List.filterMap_cons]
    cases f x with
    | none => exact ih
    | some y => exact (ih.cons y).trans (List.Perm.swap b y _)

/-! ### The relation -/

theorem BindingKept.refl (o : Option Binding) : BindingKept o o :=
  fun b h => ⟨b, h, rfl, rfl, rfl, rfl⟩

theorem BindingKept.gone (o : Option Binding) : BindingKept o none := fun _ h => nomatch h

theorem BindingKept.trans {a b c : Option Binding} (h : BindingKept a b) (k : BindingKept b c) :
    BindingKept a c := by
  intro z hz
  obtain ⟨y, hy, k1, k2, k3, k4⟩ := k z hz
  obtain ⟨x, hx, h1, h2, h3, h4⟩ := h y hy
  exact ⟨x, hx, h1.trans k1, h2.trans k2, h3.trans k3, h4.trans k4⟩

/-- A binding whose STATE alone changes is kept. -/
theorem BindingKept.state (b : Binding) (st : Bound) :
    BindingKept (some b) (some { b with state := st }) := by
  intro x hx
  cases hx
  exact ⟨b, rfl, rfl, rfl, rfl, rfl⟩

theorem EngineFrame.refl (s : State) : EngineFrame s s where
  pending := rfl
  port := rfl
  timebase := rfl
  groups := rfl
  paused := rfl
  enables := rfl
  hostMisuse := rfl
  irqN := rfl
  rqSpace := id
  threshold := rfl
  coalesce := rfl
  config _ := rfl
  alertLow _ := rfl
  clockLine _ := rfl
  binding _ := BindingKept.refl _
  survey _ := rfl
  rqLength := Nat.le_refl _
  cqLength := Nat.le_max_left _ _
  nqLength := Nat.le_max_left _ _
  tags := List.Subperm.refl _

theorem EngineFrame.trans {s t u : State} (h : EngineFrame s t) (k : EngineFrame t u) :
    EngineFrame s u where
  pending := k.pending.trans h.pending
  port := k.port.trans h.port
  timebase := k.timebase.trans h.timebase
  groups := k.groups.trans h.groups
  paused := k.paused.trans h.paused
  enables := k.enables.trans h.enables
  hostMisuse := k.hostMisuse.trans h.hostMisuse
  irqN := k.irqN.trans h.irqN
  rqSpace e := k.rqSpace (h.rqSpace e)
  threshold := k.threshold.trans h.threshold
  coalesce := k.coalesce.trans h.coalesce
  config i := (k.config i).trans (h.config i)
  alertLow i := (k.alertLow i).trans (h.alertLow i)
  clockLine i := (k.clockLine i).trans (h.clockLine i)
  binding lt := (h.binding lt).trans (k.binding lt)
  survey n := (k.survey n).trans (h.survey n)
  rqLength := k.rqLength.trans h.rqLength
  cqLength := by have := h.cqLength; have := k.cqLength; omega
  nqLength := by have := h.nqLength; have := k.nqLength; omega
  tags := k.tags.trans h.tags

/-! ### Single writes -/

theorem putSlot_frame (s : State) (k : SlotId) (o : Option OpSlot) : EngineFrame s (s.putSlot k o) :=
  { EngineFrame.refl s with }

theorem putMirror_frame (s : State) (n : SvId) (m : MirrorSlot) : EngineFrame s (s.putMirror n m) :=
  { EngineFrame.refl s with }

theorem putSeg_frame (s : State) (i : SegId) (g : Segment) (hc : g.config = (s.seg i).config)
    (ha : g.alertLow = (s.seg i).alertLow) (hk : g.clockLine = (s.seg i).clockLine) :
    EngineFrame s (s.putSeg i g) :=
  { EngineFrame.refl s with
    config := fun j => by
      rw [State.seg_putSeg]; split
      · next e => subst e; exact hc
      · rfl
    alertLow := fun j => by
      rw [State.seg_putSeg]; split
      · next e => subst e; exact ha
      · rfl
    clockLine := fun j => by
      rw [State.seg_putSeg]; split
      · next e => subst e; exact hk
      · rfl }

theorem putSegState_frame (s : State) (i : SegId) (st : SegState) : EngineFrame s (s.putSegState i st) :=
  putSeg_frame s i _ rfl rfl rfl

theorem putAlert_frame (s : State) (i : SegId) (a : AlertState) : EngineFrame s (putAlert i a s) :=
  putSeg_frame s i _ rfl rfl rfl

theorem putEntry_frame (s : State) (lt : LtId) (e : MapEntry)
    (h : BindingKept (s.entry lt).binding e.binding) : EngineFrame s (s.putEntry lt e) :=
  { EngineFrame.refl s with
    binding := fun m => by
      rw [State.entry_putEntry]; split
      · next e => subst e; exact h
      · exact BindingKept.refl _ }

theorem putSv_frame (s : State) (n : SvId) (e : SurveyEntry)
    (h : e.setup.map (·.conf) = (s.sv n).setup.map (·.conf)) : EngineFrame s (s.putSv n e) :=
  { EngineFrame.refl s with
    survey := fun m => by
      rw [State.sv_putSv]; split
      · next e => subst e; exact h
      · rfl }

theorem putSvRun_frame (s : State) (n : SvId) (r : SurveyRun) : EngineFrame s (s.putSvRun n r) :=
  putSv_frame s n _ (by cases (s.sv n).setup <;> rfl)

/-- A context freed, or written again with its request, takes no tag. -/
theorem putCtx_frame (s : State) (c : CtxId) (x : Option Context)
    (h : x = none ∨ x.map (·.request.tag) = (s.ctx c).map (·.request.tag)) :
    EngineFrame s (s.putCtx c x) :=
  { EngineFrame.refl s with
    tags := by
      refine (List.subperm_append_left _).mpr ?_
      have e : (s.putCtx c x).contexts.toList = s.contexts.toList.set c.val x := by
        simp only [State.putCtx, put]
        exact Vector.toList_set _
      rw [e]
      rcases h with rfl | h
      · exact (filterMap_set_none _ _ rfl _ _).subperm
      · rw [filterMap_set_same _ _ _ _ (by simp)]
        · simpa [State.ctx, look] using h }

theorem latchRqSpace_frame (s : State) : EngineFrame s (latchRqSpace s) :=
  { EngineFrame.refl s with rqSpace := fun _ => rfl }

theorem postNotice_frame (b : NoticeBody) (s : State) : EngineFrame s (postNotice b s) := by
  unfold postNotice
  split
  · next h =>
    exact { EngineFrame.refl s with
      nqLength := by simp only [Config.nqCapacity] at h; simp; omega }
  · exact { EngineFrame.refl s with }

/-- The RQ loses entries, or has them rewritten in place. -/
theorem rq_frame (s : State) (q : List RqEntry)
    (h : (q.map (·.request.tag)).Sublist (s.rq.map (·.request.tag))) :
    EngineFrame s { s with rq := q } :=
  { EngineFrame.refl s with
    rqLength := by simpa using h.length_le
    tags := ((List.subperm_append_right _).mpr h.subperm) }

theorem setRq_frame (s : State) (q : List RqEntry)
    (h : (q.map (·.request.tag)).Sublist (s.rq.map (·.request.tag))) :
    EngineFrame s (setRq q s) := by
  unfold setRq
  split
  · exact (rq_frame s q h).trans (latchRqSpace_frame _)
  · exact rq_frame s q h

theorem foldl_frame {α : Type} (f : α → State → State) (h : ∀ a s, EngineFrame s (f a s)) :
    ∀ (l : List α) (s : State), EngineFrame s (l.foldl (fun t a => f a t) s)
  | [], s => EngineFrame.refl s
  | a :: l, s => (h a s).trans (foldl_frame f h l (f a s))

theorem forSurvey_frame (f : SvId → State → State) (h : ∀ n s, EngineFrame s (f n s)) (s : State) :
    EngineFrame s (forSurvey f s) := foldl_frame f h _ s

theorem if_frame {p : Prop} [Decidable p] {s t : State} (h : EngineFrame s t) :
    EngineFrame s (if p then t else s) := by
  split
  · exact h
  · exact EngineFrame.refl s

/-! ### Survey entries, references, lists -/

theorem leaveDue_frame (n : SvId) (s : State) : EngineFrame s (leaveDue n s) := by
  unfold leaveDue
  split
  · exact EngineFrame.refl s
  · exact putSeg_frame s _ _ rfl rfl rfl

theorem joinDue_frame (n : SvId) (i : SegId) (d : DueTime) (s : State) :
    EngineFrame s (joinDue n i d s) :=
  (putSvRun_frame s n _).trans (putSeg_frame _ i _ rfl rfl rfl)

theorem setDueTime_frame (n : SvId) (i : SegId) (a b : Word16) (s : State) :
    EngineFrame s (setDueTime n i a b s) := by
  unfold setDueTime
  dsimp only
  split
  · exact joinDue_frame _ _ _ _
  · exact putSvRun_frame _ _ _

theorem holdEntry_frame (n : SvId) (s : State) : EngineFrame s (holdEntry n s) := by
  unfold holdEntry
  split
  · exact putSvRun_frame _ _ _
  · exact (leaveDue_frame _ _).trans (putSvRun_frame _ _ _)
  · exact EngineFrame.refl s

theorem releaseEntry_frame (n : SvId) (s : State) : EngineFrame s (releaseEntry n s) := by
  unfold releaseEntry
  split
  · split
    · split
      · exact setDueTime_frame _ _ _ _ _
      · exact EngineFrame.refl s
    · exact EngineFrame.refl s
  · exact EngineFrame.refl s

theorem releaseSegment_frame (i : SegId) (s : State) : EngineFrame s (releaseSegment i s) :=
  forSurvey_frame _ (fun n s => if_frame (releaseEntry_frame n s)) s

theorem releaseTarget_frame (lt : LtId) (s : State) : EngineFrame s (releaseTarget lt s) :=
  forSurvey_frame _ (fun n s => if_frame (releaseEntry_frame n s)) s

theorem orphanTarget_frame (lt : LtId) (s : State) : EngineFrame s (orphanTarget lt s) :=
  forSurvey_frame _
    (fun n s => if_frame ((leaveDue_frame n s).trans (putSvRun_frame _ _ _))) s

theorem retireEntry_frame (n : SvId) (s : State) : EngineFrame s (retireEntry n s) := by
  unfold retireEntry
  split
  · exact putSvRun_frame _ _ _
  · exact (leaveDue_frame _ _).trans (putSvRun_frame _ _ _)
  · exact EngineFrame.refl s

theorem completeRetirement_frame (lt : LtId) (b : Binding) (post : Bool) (s : State) :
    EngineFrame s (completeRetirement lt b post s) := by
  have h := (orphanTarget_frame lt s).trans
    (putEntry_frame (orphanTarget lt s) lt MapEntry.free (BindingKept.gone _))
  unfold completeRetirement
  dsimp only
  split
  · exact h.trans (postNotice_frame _ _)
  · exact h

theorem addRef_frame (lt : LtId) (s : State) : EngineFrame s (addRef lt s) :=
  putEntry_frame s lt _ (BindingKept.refl _)

theorem releaseRef_frame (lt : LtId) (s : State) : EngineFrame s (releaseRef lt s) := by
  have h := putEntry_frame s lt { s.entry lt with refCount := (s.entry lt).refCount - 1 }
    (BindingKept.refl _)
  unfold releaseRef
  dsimp only
  split
  · split
    · exact h.trans (completeRetirement_frame _ _ _ _)
    · exact h
  · exact h

theorem leavePending_frame (i : SegId) (k : SlotId) (s : State) : EngineFrame s (leavePending i k s) :=
  putSeg_frame s i _ rfl rfl rfl

/-! ### Arbiter -/

theorem beginWork_frame (i : SegId) (w : Work) (lt : Option LtId) (script : List BusItem) (s : State) :
    EngineFrame s (beginWork i w lt script s) := by
  unfold beginWork
  dsimp only
  split <;> exact putSeg_frame s i _ rfl rfl rfl

theorem putConsecHost_frame (i : SegId) (n : Nat) (s : State) : EngineFrame s (putConsecHost i n s) :=
  putSeg_frame s i _ rfl rfl rfl

theorem grant_frame (i : SegId) (c : Choice) (s : State) : EngineFrame s (grant i c s) := by
  cases c with
  | alert => exact (putConsecHost_frame _ _ _).trans (beginWork_frame _ _ _ _ _)
  | survey n =>
    unfold grant grantSurvey
    dsimp only
    split
    · split
      · exact ((((leaveDue_frame _ _).trans (putConsecHost_frame _ _ _)).trans
          (putSvRun_frame _ _ _)).trans (addRef_frame _ _)).trans (beginWork_frame _ _ _ _ _)
      · exact EngineFrame.refl s
    · exact EngineFrame.refl s
  | host k =>
    unfold grant grantHost
    dsimp only
    split
    · split
      · exact (((putConsecHost_frame _ _ _).trans (leavePending_frame _ _ _)).trans
          (putSlot_frame _ _ _)).trans (beginWork_frame _ _ _ _ _)
      · exact EngineFrame.refl s
    · exact EngineFrame.refl s

theorem enterRecovering_frame (i : SegId) (c : EntryCause) (s : State) :
    EngineFrame s (enterRecovering i c s) := putSeg_frame s i _ rfl rfl rfl

theorem arbitrate_frame (i : SegId) (s : State) : EngineFrame s (arbitrate i s) := by
  unfold arbitrate
  split
  · split
    · exact enterRecovering_frame _ _ _
    · split
      · exact grant_frame _ _ _
      · exact EngineFrame.refl s
  · exact EngineFrame.refl s

/-! ### Posting -/

theorem pushRecord_cq (r : CompletionRecord) (s : State) :
    (pushRecord r s).completion.cq = s.completion.cq ++ [⟨r, 0⟩] := rfl

/-- With room in the CQ a record joins it and nothing else changes. -/
theorem pushRecord_frame (r : CompletionRecord) (s : State) (h : s.completion.cq.length < 32) :
    EngineFrame s (pushRecord r s) :=
  { EngineFrame.refl s with cqLength := by simp [pushRecord]; omega }

theorem postItem_frame (it : PostItem) (s : State) (h : s.completion.cq.length < 32) :
    EngineFrame s (postItem it s) := by
  unfold postItem
  cases it with
  | entry tag =>
    dsimp only
    split
    · exact (pushRecord_frame _ s h).trans
        (setRq_frame _ _ ((List.eraseP_sublist).map _))
    · exact EngineFrame.refl s
  | context c =>
    dsimp only
    split
    · split
      · exact (pushRecord_frame _ s h).trans (putCtx_frame _ _ _ (.inl rfl))
      · exact EngineFrame.refl s
    · exact EngineFrame.refl s

theorem posting_frame (s : State) (l : List PostItem) :
    EngineFrame s { s with completion := { s.completion with posting := l } } :=
  { EngineFrame.refl s with }

theorem postFrom_frame : ∀ (l : List PostItem) (s : State), EngineFrame s (postFrom l s)
  | [], s => posting_frame s []
  | it :: rest, s => by
    unfold postFrom
    split
    · next h => exact (postItem_frame it s h).trans (postFrom_frame rest _)
    · exact posting_frame s _

theorem postAll_frame (s : State) : EngineFrame s (postAll s) := postFrom_frame _ s

theorem joinPosting_frame (it : PostItem) (s : State) : EngineFrame s (joinPosting it s) :=
  (posting_frame s _).trans (postAll_frame _)

theorem finishQueued_frame (tag : Byte) (f : RqFinish) (s : State) :
    EngineFrame s (finishQueued tag f s) := by
  refine (rq_frame s _ ?_).trans (joinPosting_frame _ _)
  rw [List.map_map]
  have h : (s.rq.map ((·.request.tag) ∘ fun e : RqEntry =>
      if e.request.tag = tag ∧ e.queued then { e with finish := some f } else e)) =
      s.rq.map (·.request.tag) :=
    List.map_congr_left fun e _ => by
      simp only [Function.comp]
      split <;> rfl
  rw [h]

/-! ### Dispatcher -/

theorem failAtAdmission_frame (e : RqEntry) (res : List (LtId × Resolution)) (s : State) :
    EngineFrame s (failAtAdmission e res s) := finishQueued_frame _ _ _

theorem placeSlot_frame (c : CtxId) (r : Request) (t : LiveTarget) (k : SlotId) (s : State) :
    EngineFrame s (placeSlot c r t k s) :=
  ((putSlot_frame _ _ _).trans (addRef_frame _ _)).trans (putSeg_frame _ _ _ rfl rfl rfl)

theorem placeSlots_frame (c : CtxId) (r : Request) :
    ∀ (l : List LiveTarget) (ks : List SlotId) (s : State), EngineFrame s (placeSlots c r l ks s)
  | [], _, s => EngineFrame.refl s
  | _ :: _, [], s => EngineFrame.refl s
  | t :: ts, k :: ks, s => (placeSlot_frame c r t k s).trans (placeSlots_frame c r ts ks _)

theorem offerSegments_frame (l : List LiveTarget) (s : State) : EngineFrame s (offerSegments l s) :=
  foldl_frame (fun i t => if l.any (·.seg == i) then arbitrate i t else t)
    (fun i t => if_frame (arbitrate_frame i t)) _ s

/-- The tag of an admitted entry passes from the RQ to its context. -/
theorem admit_tags (e : RqEntry) (c : CtxId) (x : Context) (q : List RqEntry) (cs : Vector (Option Context) 16)
    (hq : ∃ y ∈ q, y.request.tag = e.request.tag ∧ y.queued) (hc : look cs c = none)
    (hx : x.request.tag = e.request.tag) :
    (((q.eraseP fun y => y.request.tag == e.request.tag && y.queued).map (·.request.tag)) ++
      (put cs c (some x)).toList.filterMap (·.map (·.request.tag))).Subperm
    (q.map (·.request.tag) ++ cs.toList.filterMap (·.map (·.request.tag))) := by
  have e1 : (put cs c (some x)).toList = cs.toList.set c.val (some x) := by
    unfold put
    exact Vector.toList_set _
  rw [e1]
  have p1 := filterMap_set_new (fun o : Option Context => o.map (·.request.tag)) (some x)
    x.request.tag rfl cs.toList c.val (by simp) (by
      have : cs.toList[c.val]'(by simp) = none := hc
      simp [this])
  obtain ⟨y, hy, ht, hqd⟩ := hq
  obtain ⟨a, l1, l2, h1, h2, h3, h4⟩ := List.exists_of_eraseP
    (p := fun y : RqEntry => y.request.tag == e.request.tag && y.queued) hy (by simp [ht, hqd])
  rw [h4, h3]
  have ha : a.request.tag = e.request.tag := by simp at h2; exact h2.1
  refine List.Perm.subperm ?_
  refine (List.Perm.append_left _ p1).trans ?_
  rw [hx, ← ha]
  simp only [List.map_append, List.map_cons, List.append_assoc, List.cons_append]
  refine List.Perm.append_left _ ?_
  exact List.perm_middle

theorem admitCandidate_frame (e : RqEntry) (c : CtxId) (res : List (LtId × Resolution)) (s : State)
    (he : e ∈ s.rq ∧ e.queued) (hc : s.ctx c = none) : EngineFrame s (admitCandidate e c res s) := by
  have hsub : ((s.rq.eraseP fun y => y.request.tag == e.request.tag && y.queued).map
      (·.request.tag)).Sublist (s.rq.map (·.request.tag)) := (List.eraseP_sublist).map _
  have h1 := setRq_frame s _ hsub
  have h2 : EngineFrame s ((setRq (s.rq.eraseP fun y => y.request.tag == e.request.tag && y.queued)
      s).putCtx c (some (newContext s e res))) := by
    refine { h1 with tags := ?_ }
    have hrq : (setRq (s.rq.eraseP fun y => y.request.tag == e.request.tag && y.queued) s).rq =
        s.rq.eraseP fun y => y.request.tag == e.request.tag && y.queued := by
      unfold setRq; split <;> rfl
    have hcx : (setRq (s.rq.eraseP fun y => y.request.tag == e.request.tag && y.queued) s).contexts =
        s.contexts := by unfold setRq; split <;> rfl
    unfold heldTags
    rw [State.putCtx_rq, hrq]
    have : ((setRq (s.rq.eraseP fun y => y.request.tag == e.request.tag && y.queued) s).putCtx c
        (some (newContext s e res))).contexts = put s.contexts c (some (newContext s e res)) := by
      simp [State.putCtx, hcx]
    rw [this]
    exact admit_tags e c _ s.rq s.contexts ⟨e, he.1, rfl, he.2⟩ hc rfl
  exact (h2.trans (placeSlots_frame _ _ _ _ _)).trans (offerSegments_frame _ _)

/-- The candidate is a QUEUED entry of the RQ. -/
theorem candidate_mem {s : State} {e : RqEntry} (h : candidate s = some e) : e ∈ s.rq ∧ e.queued := by
  unfold candidate at h
  split at h
  · cases h
  · split at h
    · next x hx =>
      cases h
      have := List.find?_some hx
      simp at this
      exact ⟨List.mem_of_find?_eq_some hx, this.1⟩
    · have := List.find?_some h
      simp at this
      exact ⟨List.mem_of_find?_eq_some h, this.1⟩

/-- The free context found is free. -/
theorem freeContext_free {s : State} {c : CtxId} (h : freeContext? s = some c) : s.ctx c = none := by
  have := List.find?_some h
  simpa using this

theorem examineOnce_frame {s t : State} (h : examineOnce s = some t) : EngineFrame s t := by
  unfold examineOnce at h
  split at h
  · cases h
  · next e he =>
    dsimp only at h
    split at h
    · cases h; exact failAtAdmission_frame _ _ _
    · split at h
      · next c hc =>
        split at h
        · cases h; exact admitCandidate_frame _ _ _ _ (candidate_mem he) (freeContext_free hc)
        · cases h
      · cases h

theorem examineUpTo_frame : ∀ (n : Nat) (s : State), EngineFrame s (examineUpTo n s)
  | 0, s => EngineFrame.refl s
  | n + 1, s => by
    unfold examineUpTo
    split
    · exact EngineFrame.refl s
    · next t h => exact (examineOnce_frame h).trans (examineUpTo_frame n t)

theorem examine_frame (s : State) : EngineFrame s (examine s) := examineUpTo_frame _ s

theorem opportunity_frame (i : SegId) (s : State) : EngineFrame s (opportunity i s) := by
  unfold opportunity
  dsimp only
  split
  · exact arbitrate_frame i s
  · exact (arbitrate_frame i s).trans (examine_frame _)

/-! ### Slots -/

theorem finishContext_frame (c : CtxId) (x : Context) (s : State)
    (h : (s.ctx c).map (·.request.tag) = some x.request.tag) : EngineFrame s (finishContext c x s) :=
  (putCtx_frame s c _ (.inr (Eq.symm (h.trans rfl)))).trans (joinPosting_frame _ _)

theorem accountSlotEnd_frame (o : OpSlot) (outcome : Outcome) (data : List Byte) (s : State) :
    EngineFrame s (accountSlotEnd o outcome data s) := by
  unfold accountSlotEnd
  split
  · next x hx =>
    dsimp only
    split
    · exact finishContext_frame _ _ _ (by rw [hx]; rfl)
    · exact putCtx_frame s _ _ (.inr (by rw [hx]; rfl))
  · exact EngineFrame.refl s

theorem slotEnd_frame (k : SlotId) (outcome : Outcome) (data : List Byte) (s : State) :
    EngineFrame s (slotEnd k outcome data s) := by
  unfold slotEnd
  split
  · exact EngineFrame.refl s
  · next o _ =>
    dsimp only
    have h := ((((leavePending_frame o.segment k s).trans (putSlot_frame _ k none)).trans
      (releaseRef_frame o.lt _)).trans (accountSlotEnd_frame o outcome data _)).trans (examine_frame _)
    split
    · exact h.trans (opportunity_frame _ _)
    · exact h

theorem endWaiting_frame (k : SlotId) (outcome : Outcome) (s : State) :
    EngineFrame s (endWaiting k outcome s) := by
  unfold endWaiting
  split
  · split
    · exact EngineFrame.refl s
    · exact slotEnd_frame _ _ _ _
  · exact EngineFrame.refl s

theorem endEach_frame (outcome : Outcome) :
    ∀ (l : List SlotId) (s : State), EngineFrame s (endEach outcome l s)
  | [], s => EngineFrame.refl s
  | k :: ks, s => (endWaiting_frame k outcome s).trans (endEach_frame outcome ks _)

theorem holdTarget_frame (lt : LtId) (s : State) : EngineFrame s (holdTarget lt s) :=
  forSurvey_frame _ (fun n s => if_frame (holdEntry_frame n s)) s

theorem isolate_frame (lt : LtId) (s : State) : EngineFrame s (isolate lt s) := by
  unfold isolate
  split
  · exact EngineFrame.refl s
  · next b hb =>
    dsimp only
    exact ((((putEntry_frame s lt _ (by rw [hb]; exact BindingKept.state b _)).trans
      (endEach_frame _ _ _)).trans (holdTarget_frame _ _)).trans (postNotice_frame _ _)).trans
      (examine_frame _)

theorem reinstate_frame (lt : LtId) (b : Binding) (s : State) (h : (s.entry lt).binding = some b) :
    EngineFrame s (reinstate lt b s) :=
  (putEntry_frame s lt _ (by rw [h]; exact BindingKept.state b _)).trans (releaseTarget_frame _ _)

theorem countOutcome_frame (lt : LtId) (r : AttemptResult) (s : State) :
    EngineFrame s (countOutcome lt r s) := by
  unfold countOutcome
  dsimp only
  split
  · exact putEntry_frame s lt _ (BindingKept.refl _)
  · exact EngineFrame.refl s

theorem probeReinstates_frame (lt : LtId) (kind : Kind) (r : AttemptResult) (s : State) :
    EngineFrame s (probeReinstates lt kind r s) := by
  unfold probeReinstates
  split
  · next b hb =>
    split
    · exact ((reinstate_frame lt b s hb).trans (postNotice_frame _ _)).trans (examine_frame _)
    · exact EngineFrame.refl s
  · exact EngineFrame.refl s

/-! ### The end of a transaction -/

theorem enterBackoff_frame (k : SlotId) (o : OpSlot) (s : State) : EngineFrame s (enterBackoff k o s) :=
  (putSlot_frame _ _ _).trans (putSeg_frame _ _ _ rfl rfl rfl)

theorem settleHost_frame (k : SlotId) (stop : StopRequest) (r : AttemptResult) (s : State) :
    EngineFrame s (settleHost k stop r s) := by
  unfold settleHost
  split
  · exact EngineFrame.refl s
  · next o _ =>
    dsimp only
    have h := putSlot_frame s k (some { o with lastAcked := r.bytesAcked })
    split
    · exact h
    · split
      · exact h.trans (slotEnd_frame _ _ _ _)
      · split
        · split
          · exact (h.trans (enterBackoff_frame _ _ _)).trans (endWaiting_frame _ _ _)
          · exact h.trans (enterBackoff_frame _ _ _)
        · exact h.trans (slotEnd_frame _ _ _ _)

theorem noticeOfDone_frame (n : SvId) (c : SurveyConf) (m : MirrorSlot) (w : WindowState) (v : Mask64)
    (s : State) : EngineFrame s (noticeOfDone n c m w v s) := by
  unfold noticeOfDone
  dsimp only
  split
  · exact EngineFrame.refl s
  · exact if_frame (postNotice_frame _ _)
  · have h := fun j => putSv_frame s n { s.sv n with windowState := j } rfl
    split
    · exact h _
    · exact (h _).trans (postNotice_frame _ _)

theorem surveyDone_frame (n : SvId) (c : SurveyConf) (data : List Byte) (s : State) :
    EngineFrame s (surveyDone n c data s) := by
  unfold surveyDone
  dsimp only
  refine .trans ?_ (noticeOfDone_frame _ _ _ _ _ _)
  split
  · refine .trans ?_ (postNotice_frame _ _)
    exact .trans (putMirror_frame s n _) (putSv_frame _ n _ rfl)
  · exact .trans (putMirror_frame s n _) (putSv_frame _ n _ rfl)

theorem surveyFailed_frame (n : SvId) (c : SurveyConf) (o : Outcome) (s : State) :
    EngineFrame s (surveyFailed n c o s) := by
  unfold surveyFailed
  dsimp only
  split
  · refine .trans ?_ (postNotice_frame _ _)
    refine .trans ?_ (putMirror_frame _ _ _)
    exact putSv_frame s n _ rfl
  · exact putSv_frame s n _ rfl

theorem surveyNextDue_frame (n : SvId) (i : SegId) (c : SurveyConf) (d : DueTime) (s : State) :
    EngineFrame s (surveyNextDue n i c d s) := by
  unfold surveyNextDue
  split
  · dsimp only
    refine .trans ?_ (setDueTime_frame _ _ _ _ _)
    exact putSv_frame s n _ rfl
  · exact setDueTime_frame _ _ _ _ _

theorem takeSurveyRead_frame (i : SegId) (n : SvId) (r : AttemptResult) (s : State) :
    EngineFrame s (takeSurveyRead i n r s) := by
  unfold takeSurveyRead
  split
  · split
    · exact EngineFrame.refl s
    · split
      · exact putSvRun_frame _ _ _
      · next c _ _ _ _ _ =>
        have h : EngineFrame s
            (if r.outcome = .done then surveyDone n c r.data s else surveyFailed n c r.outcome s) := by
          split
          · exact surveyDone_frame _ _ _ _
          · exact surveyFailed_frame _ _ _ _
        dsimp only
        split
        · exact h.trans (putSvRun_frame _ _ _)
        · exact h.trans (surveyNextDue_frame _ _ _ _ _)
  · exact EngineFrame.refl s

theorem suspendAlert_frame (i : SegId) (c : StuckCause) (a : BusAddr) (s : State) :
    EngineFrame s (suspendAlert i c a s) := (putAlert_frame _ _ _).trans (postNotice_frame _ _)

theorem takeAlert_frame (i : SegId) (r : AttemptResult) (s : State) :
    EngineFrame s (takeAlert i r s) := by
  unfold takeAlert
  split
  · unfold alertDone
    dsimp only
    split
    · refine .trans ?_ (suspendAlert_frame _ _ _ _)
      exact .trans (postNotice_frame _ _) (putAlert_frame _ _ _)
    · exact .trans (postNotice_frame _ _) (putAlert_frame _ _ _)
  · split
    · exact EngineFrame.refl s
    · unfold alertMissed
      dsimp only
      exact (putAlert_frame _ _ _).trans (if_frame (suspendAlert_frame _ _ _ _))

theorem disableEntry_frame (n : SvId) (s : State) : EngineFrame s (disableEntry n s) := by
  unfold disableEntry
  split
  · exact putSvRun_frame _ _ _
  · exact putSvRun_frame _ _ _
  · exact holdEntry_frame _ _

theorem completeDisable_frame (i : SegId) (s : State) : EngineFrame s (completeDisable i s) := by
  unfold completeDisable
  extract_lets _ a b c
  have h1 : EngineFrame s a := putSeg_frame s i _ rfl rfl rfl
  have h2 : EngineFrame a b := endEach_frame _ _ _
  have h3 : EngineFrame b c := forSurvey_frame _ (fun n s => if_frame (disableEntry_frame n s)) _
  exact (((h1.trans h2).trans h3).trans (putAlert_frame _ _ _)).trans (examine_frame _)

theorem mapTakes_frame (c : Current) (r : AttemptResult) (s : State) :
    EngineFrame s (mapTakes c r s) := by
  unfold mapTakes
  split
  · exact EngineFrame.refl s
  · dsimp only
    split
    · exact (countOutcome_frame _ _ _).trans (probeReinstates_frame _ _ _ _)
    · exact countOutcome_frame _ _ _

theorem ownerTakes_frame (i : SegId) (c : Current) (r : AttemptResult) (s : State) :
    EngineFrame s (ownerTakes i c r s) := by
  unfold ownerTakes
  split
  · split
    · exact (releaseRef_frame _ _).trans (examine_frame _)
    · exact EngineFrame.refl s
  · split
    · exact settleHost_frame _ _ _ _
    · dsimp only
      split
      · exact ((takeSurveyRead_frame _ _ _ _).trans (releaseRef_frame _ _)).trans (examine_frame _)
      · exact takeSurveyRead_frame _ _ _ _
    · exact takeAlert_frame _ _ _

theorem isolateIf_frame (due : Bool) (c : Current) (s : State) : EngineFrame s (isolateIf due c s) := by
  unfold isolateIf
  split
  · exact if_frame (isolate_frame _ _)
  · exact EngineFrame.refl s

theorem afterTransaction_frame (i : SegId) (c : Current) (r : AttemptResult) (s : State) :
    EngineFrame s (afterTransaction i c r s) := by
  unfold afterTransaction
  split
  · exact completeDisable_frame _ _
  · split
    · exact (enterRecovering_frame _ _ _).trans (examine_frame _)
    · exact (putSegState_frame _ _ _).trans (examine_frame _)

theorem endTransaction_frame (i : SegId) (c : Current) (r : AttemptResult) (s : State) :
    EngineFrame s (endTransaction i c r s) := by
  unfold endTransaction
  dsimp only
  exact ((((mapTakes_frame _ _ _).trans (ownerTakes_frame _ _ _ _)).trans
    (isolateIf_frame _ _ _)).trans (afterTransaction_frame _ _ _ _)).trans (opportunity_frame _ _)

end Sys2Proof.Machine
end

