-- ==== Sys2Proof/Laws/Slots.lean ====
section
/-! SUPPORT. What the end of an operation slot does where its request has no other, the CQ is open and
nothing is QUEUED. -/

namespace Sys2Proof.Machine

/-- R45: without a QUEUED entry an examination does nothing, whatever else has changed. -/
theorem examine_stay {s t : State} (h : s.noneQueued) (hr : t.rq = s.rq) : examine t = t :=
  examine_noneQueued (by unfold State.noneQueued; rw [hr]; exact h)

/-- R5: a reference released where no retirement waits for it. -/
theorem releaseRef_plain {s : State} {lt : LtId} {b : Binding} (hb : (s.entry lt).binding = some b)
    (hd : b.state ≠ .draining) : releaseRef lt s =
      s.putEntry lt { s.entry lt with refCount := (s.entry lt).refCount - 1 } := by
  simp [releaseRef, hb, hd]

/-- R59: a slot that is not listed leaves no list. -/
theorem leavePending_nil {s : State} {i : SegId} {k : SlotId} (h : (s.seg i).pendingList = []) :
    leavePending i k s = s := by
  have : { s.seg i with pendingList := (s.seg i).pendingList.filter (· != k) } = s.seg i := by
    generalize s.seg i = g at h ⊢
    cases g
    simp_all
  unfold leavePending
  rw [this]
  simp only [State.putSeg, State.seg, put_look]

/-- R65, R68, R135: the end of the only open slot of a context, with the CQ open and nothing QUEUED: the slot
is FREE, its reference is released, its context is freed and its record joins the CQ. -/
theorem slotEnd_open {s : State} {k : SlotId} {o : OpSlot} {x : Context} {b : Binding}
    (outcome : Outcome) (data : List Byte) (hk : s.slot k = some o) (hc : s.ctx o.context = some x)
    (hx : x.outstanding = 1) (hb : (s.entry o.lt).binding = some b) (hd : b.state ≠ .draining)
    (hp : s.postingOpen) (hq : s.noneQueued)
    (hl : k ∈ (s.seg o.segment).pendingList → (s.seg o.segment).state ≠ .idle) :
    slotEnd k outcome data s = ((((leavePending o.segment k s).putSlot k none).putEntry o.lt
      { s.entry o.lt with refCount := (s.entry o.lt).refCount - 1 }).putCtx o.context none).withRecord
      (contextRecord (afterSlotEnd x o outcome data)
        ⟨contextStatus (afterSlotEnd x o outcome data), s.timebase.time,
          contextBytesAcked (afterSlotEnd x o outcome data)⟩) := by
  have account : ∀ t : State, t.ctx o.context = some x → t.postingOpen →
      accountSlotEnd o outcome data t = (t.putCtx o.context none).withRecord
        (contextRecord (afterSlotEnd x o outcome data)
          ⟨contextStatus (afterSlotEnd x o outcome data), t.timebase.time,
            contextBytesAcked (afterSlotEnd x o outcome data)⟩) := by
    intro t h1 h2
    unfold accountSlotEnd
    rw [h1]
    dsimp only
    rw [if_pos (by simp [afterSlotEnd, hx]), finishContext_open _ _ h2]
  unfold slotEnd
  rw [hk]
  dsimp only
  rw [releaseRef_plain (b := b) (by exact hb) hd, account _ (by exact hc) (by exact hp),
    examine_stay hq (by rfl)]
  split
  · next hmem =>
    rw [opportunity_notIdle]
    · rfl
    · show ((leavePending o.segment k s).seg o.segment).state ≠ .idle
      simpa [leavePending] using hl hmem
  · rfl

/-- R58, R65: the same for a waiting operation of a single-target request, as `State.opEnded` says it. -/
theorem slotEnd_carries {s : State} {k : SlotId} {o : OpSlot} {c : CtxId} {x : Context} {b : Binding}
    {outcome : Outcome} (h : s.carries k o c x) (h1 : outcome ≠ .done) (h2 : outcome ≠ .aborted)
    (hb : (s.entry o.lt).binding = some b) (hd : b.state ≠ .draining) (hp : s.postingOpen)
    (hq : s.noneQueued) (hl : k ∈ (s.seg o.segment).pendingList → (s.seg o.segment).state ≠ .idle) :
    slotEnd k outcome [] s = s.opEnded k o c x outcome := by
  obtain ⟨hk, hc, rfl, hm, hout, _, hpol, htgt, hrk, hmem⟩ := h
  rw [slotEnd_open outcome [] hk hc hout hb hd hp hq hl]
  have e1 : contextStatus (afterSlotEnd x o outcome []) = .of outcome := by
    by_cases hcan : outcome = .cancelled <;>
      simp [contextStatus, afterSlotEnd, hpol, hmem, completeMember, hm, singleStatus, h1, h2, hcan]
  have e2 : contextBytesAcked (afterSlotEnd x o outcome []) =
      if o.kind = .write ∨ o.kind = .writeRead then some o.lastAcked else none := by
    simp [contextBytesAcked, afterSlotEnd, hrk, Request.isGroup, htgt, hmem, completeMember, hm]
  rw [e1, e2]
  simp [contextRecord, afterSlotEnd, Request.isGroup, htgt, hrk, takesResult, hmem, completeMember, hm,
    largest, h1, State.opEnded, leavePending]

/-- R58: a waiting slot ends; an ACTIVE one is not reached. -/
theorem endWaiting_waiting {s : State} {k : SlotId} {o : OpSlot} (outcome : Outcome)
    (hk : s.slot k = some o) (h : ∀ m, o.state ≠ .active m) :
    endWaiting k outcome s = slotEnd k outcome [] s := by
  unfold endWaiting
  rw [hk]
  cases hs : o.state <;> simp_all

/-- R67: the slots of a single-target request are its one slot. -/
theorem slotsOf_carries {s : State} {k : SlotId} {o : OpSlot} {c : CtxId} {x : Context}
    (h : s.carries k o c x) (only : ∀ j p, s.slot j = some p → p.context = c → j = k) :
    slotsOf c s = [k] := by
  obtain ⟨hk, hc, h1, h2, _, _, _, _, _, hmem⟩ := h
  unfold slotsOf
  rw [hc]
  simp only [hmem, List.length_singleton, List.range_one, List.filterMap_cons, List.filterMap_nil]
  generalize hF : List.find? _ (List.finRange 24) = F
  cases F with
  | none =>
    have := List.find?_eq_none.1 hF k (List.mem_finRange k)
    simp [hk, h1, h2] at this
  | some j =>
    have := List.find?_some hF
    cases hs : s.slot j with
    | none => simp [hs] at this
    | some p =>
      simp only [hs, Bool.and_eq_true, beq_iff_eq] at this
      rw [only j p hs this.1]

end Sys2Proof.Machine
end

