-- ==== Sys2Proof/Laws/Survey.lean ====
section
/-! SUPPORT. What the folds over the survey entries do, said once as `State.surveyMoved`: the entries of a
logical target orphaned, held or retired, and those of a segment held at a disable. -/

namespace Sys2Proof.Machine

/-- One survey entry as `State.surveyMoved` has it. -/
def moveEntry (i : SegId) (f : SurveyConf → SurveyRun → SurveyRun) (leaves : SurveyConf → SurveyRun → Bool)
    (n : SvId) (s : State) : State :=
  match (s.sv n).setup with
  | none => s
  | some u =>
    (if leaves u.conf u.run then
      s.putSeg i { s.seg i with dueList := (s.seg i).dueList.filter (· != n) } else s).putSv n
        { s.sv n with setup := some ⟨u.conf, f u.conf u.run⟩ }

/-- Moving every entry of a list, one after another, moves each of them once and takes those
that leave off the due list. -/
theorem moveEntry_fold (i : SegId) (f : SurveyConf → SurveyRun → SurveyRun)
    (leaves : SurveyConf → SurveyRun → Bool) : ∀ (l : List SvId) (s : State), l.Nodup →
    let t := l.foldl (fun t n => moveEntry i f leaves n t) s
    t = { s with survey := t.survey, segs := t.segs } ∧
    (∀ n, t.sv n = if n ∈ l then { s.sv n with setup := (s.sv n).setup.map fun u => ⟨u.conf, f u.conf u.run⟩ }
      else s.sv n) ∧
    ∀ j, t.seg j = if j = i then { s.seg i with dueList := (s.seg i).dueList.filter fun n =>
        !(decide (n ∈ l) && match (s.sv n).setup with
        | some u => leaves u.conf u.run
        | none => false) } else s.seg j
  | [], s, _ => by
    refine ⟨rfl, by simp, fun j => ?_⟩
    by_cases h : j = i
    · subst h; simp
    · simp [h]
  | m :: l, s, h => by
    obtain ⟨hm, hl⟩ := List.nodup_cons.1 h
    have ih := moveEntry_fold i f leaves l (moveEntry i f leaves m s) hl
    dsimp only at ih ⊢
    rw [List.foldl_cons]
    obtain ⟨i1, i2, i3⟩ := ih
    generalize hT : List.foldl _ _ l = T at i1 i2 i3 ⊢
    have e1 : moveEntry i f leaves m s =
        { s with survey := (moveEntry i f leaves m s).survey, segs := (moveEntry i f leaves m s).segs } := by
      unfold moveEntry; split <;> (try split) <;> rfl
    have e2 : ∀ n, (moveEntry i f leaves m s).sv n =
        if n = m then { s.sv n with setup := (s.sv n).setup.map fun u => ⟨u.conf, f u.conf u.run⟩ }
        else s.sv n := by
      intro n
      unfold moveEntry
      by_cases hn : n = m
      · subst hn
        cases hs : (s.sv n).setup with
        | none => simp only [if_true]; generalize s.sv n = z at hs; cases z; cases hs; rfl
        | some u => simp
      · rw [if_neg hn]
        cases hs : (s.sv m).setup with
        | none => rfl
        | some u => 
          dsimp only
          rw [State.sv_putSv, if_neg (Ne.symm hn)]
          split <;> rfl
    have e3 : ∀ j, (moveEntry i f leaves m s).seg j =
        if j = i then { s.seg i with dueList := (s.seg i).dueList.filter fun n =>
        !(decide (n = m) && match (s.sv n).setup with
        | some u => leaves u.conf u.run
        | none => false) } else s.seg j := by
      intro j
      unfold moveEntry
      have hf : (∀ u, (s.sv m).setup = some u → leaves u.conf u.run = false) → (s.seg i).dueList.filter (fun n =>
        !(decide (n = m) && match (s.sv n).setup with
        | some u => leaves u.conf u.run
        | none => false)) = (s.seg i).dueList := by
        intro hh
        apply List.filter_eq_self.2
        intro n _
        by_cases hn : n = m
        · subst hn
          cases hs : (s.sv n).setup with
          | none => simp
          | some u => simp [hh u hs]
        · simp [hn]
      cases hs : (s.sv m).setup with
      | none => 
        rw [hf (by simp [hs])]; by_cases hj : j = i
        · subst hj; simp
        · simp [hj]
      | some u =>
        dsimp only
        simp only [State.seg_putSv_read]
        cases hlv : leaves u.conf u.run with
        | false => 
          rw [hf (by intro u' hu; rw [hs] at hu; cases hu; exact hlv)]
          by_cases hj : j = i
          · subst hj; simp
          · simp [hj]
        | true =>
          simp only [if_true, State.seg_putSeg]
          by_cases hj : j = i
          · subst hj
            simp only [if_true]
            congr 1
            apply List.filter_congr
            intro n _
            by_cases hn : n = m
            · subst hn; simp [hs, hlv]
            · simp [hn]
          · simp [hj, Ne.symm hj]
    refine ⟨?_, fun n => ?_, fun j => ?_⟩
    · rw [i1, e1]
    · rw [i2, e2]
      by_cases hn : n = m
      · subst hn; simp [hm]
      · simp [hn]
    · rw [i3]
      by_cases hj : j = i
      · subst hj
        simp only [if_true]
        rw [e3, if_pos rfl]
        congr 1
        rw [List.filter_filter]
        apply List.filter_congr
        intro n _
        rw [e2]
        by_cases hn : n = m
        · subst hn; simp [hm]
        · simp [hn]
      · simp [hj, e3]

/-- An operation that moves one entry at a time, done for all entries, moves them all at once (R123, R128). -/
theorem forSurvey_moved {s : State} {i : SegId} {step : SvId → State → State}
    {f : SurveyConf → SurveyRun → SurveyRun} {leaves : SurveyConf → SurveyRun → Bool}
    (h : ∀ n t, t.map = s.map → step n t = moveEntry i f leaves n t) :
    s.surveyMoved (forSurvey step s) i f leaves := by
  have e : forSurvey step s = (List.finRange 32).foldl (fun t n => moveEntry i f leaves n t) s := by
    unfold forSurvey
    have : ∀ (l : List SvId) (t : State), t.map = s.map →
        l.foldl (fun t n => step n t) t = l.foldl (fun t n => moveEntry i f leaves n t) t := by
      intro l
      induction l with
      | nil => intro t _; rfl
      | cons n l ih =>
        intro t ht
        rw [List.foldl_cons, List.foldl_cons, h n t ht]
        apply ih
        unfold moveEntry; split <;> (try split) <;> exact ht
    exact this _ s rfl
  obtain ⟨h1, h2, h3⟩ := moveEntry_fold i f leaves (List.finRange 32) s (List.nodup_finRange 32)
  rw [e]
  refine ⟨h1, fun n => ?_, fun j => ?_⟩
  · rw [h2, if_pos (List.mem_finRange n)]
  · rw [h3]
    by_cases hj : j = i
    · subst hj; simp only [if_true]; refine congrArg (fun l => { s.seg j with dueList := l }) ?_; apply List.filter_congr; intro n _
      simp only [List.mem_finRange, decide_true, Bool.true_and]; cases (s.sv n).setup <;> rfl
    · simp [hj]

/-- The segment of an entry that is not UNUSED. -/
theorem svSeg_of {s : State} {n : SvId} {u : SurveySetup} (h : (s.sv n).setup = some u) :
    s.svSeg n = (s.entry u.conf.lt).binding.map (·.segment) := by
  simp [State.svSeg, State.svLt, h]

/-- Setting the run of an entry that is not UNUSED. -/
theorem putSvRun_of {s : State} {n : SvId} {u : SurveySetup} (h : (s.sv n).setup = some u) (r : SurveyRun) :
    s.putSvRun n r = s.putSv n { s.sv n with setup := some ⟨u.conf, r⟩ } := by
  simp [State.putSvRun, h]

/-- An entry leaves the due list of its segment (R153). -/
theorem leaveDue_of {s : State} {n : SvId} {i : SegId} (h : s.svSeg n = some i) :
    leaveDue n s = s.putSeg i { s.seg i with dueList := (s.seg i).dueList.filter (· != n) } := by
  simp [leaveDue, h]

/-- An entry written back in its own run is unchanged. -/
theorem putSv_self {s : State} {n : SvId} {u : SurveySetup} (h : (s.sv n).setup = some u) :
    s.putSv n { s.sv n with setup := some ⟨u.conf, u.run⟩ } = s := by
  have : ({ s.sv n with setup := some ⟨u.conf, u.run⟩ } : SurveyEntry) = s.sv n := by
    generalize s.sv n = z at h ⊢; cases z; cases h; rfl
  rw [this]; simp only [State.putSv, State.sv, put_look]

/-- R6, R7, TABLE 10: orphaning the survey entries of a target. -/
theorem orphanTarget_moved {s : State} {lt : LtId} {b : Binding} (hb : (s.entry lt).binding = some b) :
    s.surveyMoved (orphanTarget lt s) b.segment (fun c r => if c.lt = lt then .orphaned else r)
      (fun c _ => c.lt == lt) := by
  apply forSurvey_moved
  intro n t ht
  have he : ∀ x, t.entry x = s.entry x := fun x => by unfold State.entry; rw [ht]
  unfold moveEntry
  cases hs : (t.sv n).setup with
  | none => simp [State.svLt, hs]
  | some u =>
    by_cases hu : u.conf.lt = lt
    · have hseg : t.svSeg n = some b.segment := by rw [svSeg_of hs, hu, he, hb]; rfl
      simp only [State.svLt, hs, Option.map_some, hu, if_true, beq_self_eq_true]
      rw [leaveDue_of hseg, putSvRun_of (u := u) (by simpa using hs)]
      rfl
    · simp [State.svLt, hs, hu, putSv_self hs]

/-- R12: holding the survey entries of an isolated target. -/
theorem holdTarget_moved {s : State} {lt : LtId} {b : Binding} (hb : (s.entry lt).binding = some b) :
    s.surveyMoved (holdTarget lt s) b.segment (fun c r => if c.lt = lt then r.whenHeld else r)
      (fun c r => c.lt == lt && r.isDue) := by
  apply forSurvey_moved
  intro n t ht
  have he : ∀ x, t.entry x = s.entry x := fun x => by unfold State.entry; rw [ht]
  unfold moveEntry
  cases hs : (t.sv n).setup with
  | none => simp [State.svLt, hs]
  | some u =>
    by_cases hu : u.conf.lt = lt
    · have hseg : t.svSeg n = some b.segment := by rw [svSeg_of hs, hu, he, hb]; rfl
      simp only [State.svLt, hs, Option.map_some, hu, if_true, beq_self_eq_true, holdEntry, State.svRun, Bool.true_and]
      cases hr : u.run <;> simp only [SurveyRun.isDue, SurveyRun.whenHeld, if_true, Bool.false_eq_true, if_false] <;>
        try (rw [← hr, putSv_self hs])
      · rw [putSvRun_of (u := u) (by simpa using hs)]
      · rw [leaveDue_of hseg, putSvRun_of (u := u) (by simpa using hs)]; rfl
    · simp [State.svLt, hs, hu, putSv_self hs]

/-- R8, TABLE 10: the survey entries of a target that becomes DRAINING. -/
theorem retireSurvey_moved {s : State} {lt : LtId} {b : Binding} (hb : (s.entry lt).binding = some b) :
    s.surveyMoved (retireSurvey lt s) b.segment (fun c r => if c.lt = lt then r.whenRetired else r)
      (fun c r => c.lt == lt && !r.isReading) := by
  apply forSurvey_moved
  intro n t ht
  have he : ∀ x, t.entry x = s.entry x := fun x => by unfold State.entry; rw [ht]
  unfold moveEntry
  cases hs : (t.sv n).setup with
  | none => simp [State.svLt, hs]
  | some u =>
    by_cases hu : u.conf.lt = lt
    · have hseg : t.svSeg n = some b.segment := by rw [svSeg_of hs, hu, he, hb]; rfl
      simp only [State.svLt, hs, Option.map_some, hu, if_true, beq_self_eq_true, retireEntry, State.svRun, Bool.true_and]
      cases hr : u.run <;> simp only [SurveyRun.isReading, SurveyRun.whenRetired, if_true, Bool.false_eq_true,
        if_false, Bool.not_true, Bool.not_false] <;>
        first
        | rw [putSvRun_of (u := u) hs]
        | (rw [leaveDue_of hseg, putSvRun_of (u := u) (by simpa using hs)]; rfl)
    · simp [State.svLt, hs, hu, putSv_self hs]

/-- R123: the survey entries of a segment that is FAULTED. -/
theorem holdSegment_moved (s : State) (i : SegId) : s.holdsSurvey i (holdSegment i s) := by
  apply forSurvey_moved
  intro n t ht
  have he : ∀ x, t.entry x = s.entry x := fun x => by unfold State.entry; rw [ht]
  unfold moveEntry
  cases hs : (t.sv n).setup with
  | none => simp [State.svSeg, State.svLt, hs]
  | some u =>
    by_cases hu : (s.entry u.conf.lt).binding.map (·.segment) = some i
    · have hseg : t.svSeg n = some i := by rw [svSeg_of hs, he, hu]
      simp only [hu, hseg, if_true, beq_self_eq_true, Bool.true_and, holdEntry, State.svRun, hs, Option.map_some]
      cases hr : u.run <;> simp only [SurveyRun.isDue, SurveyRun.whenHeld, if_true, Bool.false_eq_true, if_false] <;>
        try (rw [← hr, putSv_self hs])
      · rw [putSvRun_of (u := u) (by simpa using hs)]
      · rw [leaveDue_of hseg, putSvRun_of (u := u) (by simpa using hs)]; rfl
    · have hseg : t.svSeg n ≠ some i := by rw [svSeg_of hs, he]; exact hu
      rw [if_neg hseg]
      simp [hu, putSv_self hs]

/-- R128: the survey entries of a segment that is disabled. -/
theorem disable_moved (s : State) (i : SegId) :
    s.surveyMoved (forSurvey (fun n s => if s.svSeg n = some i then disableEntry n s else s) s) i
      (fun c r => if (s.entry c.lt).binding.map (·.segment) = some i then r.whenDisabled else r)
      (fun c r => (s.entry c.lt).binding.map (·.segment) == some i && r.isDue) := by
  apply forSurvey_moved
  intro n t ht
  have he : ∀ x, t.entry x = s.entry x := fun x => by unfold State.entry; rw [ht]
  unfold moveEntry
  cases hs : (t.sv n).setup with
  | none => simp [State.svSeg, State.svLt, hs]
  | some u =>
    by_cases hu : (s.entry u.conf.lt).binding.map (·.segment) = some i
    · have hseg : t.svSeg n = some i := by rw [svSeg_of hs, he, hu]
      simp only [hu, hseg, if_true, beq_self_eq_true, Bool.true_and, disableEntry, State.svRun, hs, Option.map_some]
      cases hr : u.run with
      | reading d x =>
        cases x <;> simp only [SurveyRun.isDue, SurveyRun.whenDisabled, Bool.false_eq_true, if_false] <;>
          rw [putSvRun_of (u := u) hs]
      | _ =>
        simp only [holdEntry, State.svRun, hs, Option.map_some, hr, SurveyRun.isDue,
          SurveyRun.whenDisabled, SurveyRun.whenHeld, if_true, Bool.false_eq_true, if_false]
        first
        | (rw [← hr, putSv_self hs])
        | rw [putSvRun_of (u := u) hs]
        | (rw [leaveDue_of hseg, putSvRun_of (u := u) (by simpa using hs)]; rfl)
    · have hseg : t.svSeg n ≠ some i := by rw [svSeg_of hs, he]; exact hu
      rw [if_neg hseg]
      simp [hu, putSv_self hs]

/-- R128: a segment that is disabled with nothing left on its pending list. -/
theorem completeDisable_disables {s : State} {i : SegId} (h : (s.seg i).pendingList = [])
    (hq : s.noneQueued) : s.disables i (completeDisable i s) := by
  obtain ⟨g, hg⟩ : ∃ g : Segment, g = { s.seg i with state := .disabled, consecHost := 0, busFree := false } :=
    ⟨_, rfl⟩
  have hp : g.pendingList = [] := by rw [hg]; exact h
  obtain ⟨e, hn, hj⟩ := disable_moved (s.putSeg i g) i
  have hi := hj i
  rw [if_pos rfl, State.seg_putSeg_self] at hi
  generalize hf : forSurvey _ (s.putSeg i g) = f at e hn hj hi
  have hc : completeDisable i s = putAlert i AlertState.cleared f := by
    unfold completeDisable
    simp only [← hg, State.seg_putSeg_self, hp, endEach, hf]
    have hr := congrArg State.rq e
    exact examine_stay (t := putAlert i AlertState.cleared f) hq hr
  rw [hc]
  refine ⟨f.putSeg i { f.seg i with
    state := (s.seg i).state, consecHost := (s.seg i).consecHost, busFree := (s.seg i).busFree },
    ⟨by rw [e]; rfl, hn, fun j => ?_⟩, ?_⟩
  · by_cases hji : j = i
    · subst hji
      rw [if_pos rfl, State.seg_putSeg_self, hi]
      subst hg
      rfl
    · have hne : ¬ i = j := fun e => hji e.symm
      rw [State.seg_putSeg, if_neg hne, hj j, if_neg hji, if_neg hji, State.seg_putSeg, if_neg hne]
  · unfold putAlert
    rw [State.seg_putSeg_self, hi]
    subst hg
    simp only [State.putSeg, put_put]
    rfl

end Sys2Proof.Machine
end

