-- ==== Sys2Proof/Laws/Transaction.lean ====
section
/-! SUPPORT. How the bytes seen carry a transaction through runs of like items (R77, TABLE 33). -/

namespace Sys2Proof.Machine

/-- R77: read bytes that the shape goes on after, each acknowledged, gather their values. -/
theorem runBytes_reads (vs : List Byte) :
    ∀ (items : List BusItem) (bs : List BusByte) (p : Progress) (w : Standing), vs ≠ [] →
    runBytes (List.replicate vs.length (.read true) ++ items) (vs.map (.read · true) ++ bs) p w =
      runBytes items bs { p with data := p.data ++ vs } .read := by
  induction vs with
  | nil => intro _ _ _ _ h; exact absurd rfl h
  | cons v vs ih =>
    intro items bs p w _
    simp only [List.length_cons, List.replicate_succ, List.cons_append, List.map_cons, runBytes, if_true]
    cases vs with
    | nil => simp
    | cons u us => rw [ih items bs _ _ (by simp)]; simp

/-- All but the last byte read are acknowledged. -/
theorem readBytes_snoc : ∀ (vs : List Byte) (v : Byte),
    readBytes (vs ++ [v]) = vs.map (.read · true) ++ [.read v false]
  | [], v => rfl
  | [u], v => rfl
  | u :: w :: vs, v => by
    have := readBytes_snoc (w :: vs) v
    simp only [List.cons_append, readBytes, List.map_cons] at this ⊢
    rw [this]

/-- R81, TABLE 33: the read bytes of a shape, to its end. -/
theorem runBytes_all (data : List Byte) (p : Progress) (w : Standing) :
    runBytes (readItems data.length) (readBytes data) p w =
      .ended { p with data := p.data ++ data }.done := by
  rcases List.eq_nil_or_concat data with rfl | ⟨vs, v, rfl⟩
  · simp [readItems, readBytes, runBytes, endAt]
  · rw [List.concat_eq_append, readBytes_snoc]
    simp only [List.length_append, List.length_singleton, readItems]
    by_cases h : vs = []
    · subst h; simp [runBytes, endAt]
    · rw [runBytes_reads vs _ _ _ _ h]; simp [runBytes, endAt]

/-- R77: written bytes, each acknowledged, are counted. -/
theorem runBytes_acked (ws : List Byte) (items : List BusItem) (bs : List BusByte) (p : Progress)
    (n : Nat) (h : ws.length = n) :
    runBytes (ws.map .write ++ items) (List.replicate n .acked ++ bs) p .write =
      runBytes items bs { p with bytesAcked := p.bytesAcked + n } .write := by
  subst h
  induction ws generalizing p with
  | nil => simp
  | cons v vs ih =>
    simp only [List.length_cons, List.replicate_succ, List.cons_append, List.map_cons, runBytes]
    rw [ih]
    simp; congr 1; congr 1; omega

/-- R77: the first `j` written bytes acknowledged leave the rest to come. -/
theorem runBytes_acked_lt (ws : List Byte) (j : Nat) (h : j < ws.length) (items : List BusItem)
    (bs : List BusByte) (p : Progress) : ∃ (v : Byte) (ws' : List Byte),
    runBytes (ws.map .write ++ items) (List.replicate j .acked ++ bs) p .write =
      runBytes (.write v :: (ws'.map .write ++ items)) bs
        { p with bytesAcked := p.bytesAcked + j } .write := by
  obtain ⟨v, ws', e⟩ : ∃ v ws', ws = ws.take j ++ v :: ws' := ⟨ws[j], ws.drop (j+1), by simp⟩
  refine ⟨v, ws', ?_⟩
  rw [e, List.map_append, List.append_assoc, runBytes_acked _ _ _ _ j (by simp; omega)]
  rfl

end Sys2Proof.Machine
end

