-- ==== Sys2Proof/Tests/Slice0.lean ====
section
/-! SUPPORT. Tests: ill-formed commands that the check refuses; small steps whose results are worked out
from the spec by hand; and for every statement with hypotheses a state and operands that meet them. -/

namespace Sys2Proof.Tests

open Sys2Proof Sys2Proof.Machine

-- Many small kernel evaluations: one after another they need no thread of their own each.
set_option Elab.async false

/-! ### Helpers -/

/-- A state with actions handed out at a frame end. -/
def handed (l : List Action) (s : State) : State := { s with port := { s.port with actions := l } }

/-- A state with EXECUTE at hand, a code and the first argument bytes. -/
def commanded (code : Byte) (args : List Byte) (s : State) : State :=
  { s with port := { s.port with
      actions := [.execute], commandCode := code
      args := writeArgs (Vector.replicate 60 0) 0 args } }

/-- A state in a frame of which the next byte is at `a`. -/
def inFrame (isRead : Bool) (a : WinAddr) (s : State) : State :=
  { s with port := { s.port with csN := false, frame := .data isRead a true } }

/-- A state whose staging area begins with these bytes. -/
def staged (bytes : List Byte) (s : State) : State :=
  { handed [.submit] s with port := { (handed [.submit] s).port with
      staging := Vector.ofFn fun k => bytes.getD k.val 0 } }

/-- A binding on SEG1 at 0x20. -/
def bindAt (st : Bound) : Binding := ⟨st, 1, 0x20, 3, true⟩

/-- LT5 bound on SEG1 at 0x20. -/
def mapped (st : Bound) (refs : Nat) (s : State) : State := s.putEntry 5 ⟨some (bindAt st), 0, refs⟩

/-- SEG1 in a segment state. -/
def seg1 (st : SegState) (s : State) : State := s.inState 1 st

/-- A request to LT5 with TAG 7. -/
def request (kind : Kind) (budget : Nat) (deadline : Word16) (out : List Byte) (n : Nat) : Request :=
  ⟨7, kind, .lt 5, .normal, budget, deadline, out, n⟩

/-- A context for it with one operation outstanding. -/
def context (r : Request) (cancelled : Bool) (deadlinePassed : Option Bool) : Context :=
  ⟨r, 0, none, 1, [⟨5, none, 0, 0⟩], none, cancelled, none, deadlinePassed, none⟩

/-- Its slot, on its first attempt. -/
def opSlot (st : SlotState) (kind : Kind) : OpSlot := ⟨st, 3, 0, 5, 1, 0x20, kind, .normal, 1, 0⟩

/-- LT5 ACTIVE with one reference, slot 9 and context 3 occupied, SEG1 in a state. -/
def running (r : Request) (st : SlotState) (cancelled : Bool) (deadlinePassed : Option Bool)
    (seg : SegState) : State :=
  (((seg1 seg (mapped .active 1 State.reset)).putSlot 9 (some (opSlot st r.kind))).putCtx 3
    (some (context r cancelled deadlinePassed)))

/-- The transaction of slot 9. -/
def onBus (kind : Kind) (script : List BusItem) (phase : Phase) (cancel : Bool) : SegState :=
  .busy ⟨.host 9 kind, some 5, script, phase, ⟨cancel, false, false⟩⟩

/-- An RQ entry with TAG 7 for LT5, accepted at TIME 0. -/
def queuedEntry (kind : Kind) (deadline : Word16) : RqEntry :=
  ⟨request kind 0 deadline [] 0, 0, if deadline = 0 then none else some deadline, none⟩

/-- A survey configuration for LT5: one byte every 100 ms. -/
def surveyConf (offset : Word16) : SurveyConf := ⟨5, none, 1, 100, offset, .none, 3, false⟩

/-- Survey entry 2 in a running state. -/
def surveyed (offset : Word16) (r : SurveyRun) (s : State) : State :=
  s.putSv 2 ⟨some ⟨surveyConf offset, r⟩, 0, 0, .unknown⟩

/-- SUCCESS of a command: its next state. -/
def after (c : Instr) (s : State) : State :=
  match exec c s with
  | .next t => t
  | .fault _ => s
  | .refused _ => s

/-- A state with these RQ entries. -/
def withRq (l : List RqEntry) (s : State) : State := { s with rq := l }

/-- A state at a TIME and tick count. -/
def atTime (n : Word16) (s : State) : State := { s with timebase := { s.timebase with time := n, tick := n } }

/-- A record of a finished READ. -/
def record : CompletionRecord := ⟨7, .ok, .read, .lt 5, 1, 9, some [0xAB], none, none, none⟩

/-- A TARGET_RETIRED notice. -/
def notice : Notice := ⟨.targetRetired 5 1 0x20, 9, 0⟩

/-- A mirror slot holding one byte. -/
def mirrorVal (status : MirrorStatus) : MirrorSlot := ⟨4, status, 1, 0x11, 9⟩

/-- The READ of two bytes of LT5 on the bus. -/
def readState (deadline : Word16) : State :=
  running (request .read 2 deadline [] 2) (.active false) false
    (if deadline = 0 then none else some false)
    (onBus .read [.addressRead 0x20, .read true, .read false] .transfer false)

/-- The WRITE of three bytes to LT5 on the bus. -/
def writeState (phase : Phase) (cancelled : Bool) : State :=
  running (request .write 1 0 [1, 2, 3] 0) (.active cancelled) cancelled none
    (onBus .write [.addressWrite 0x20, .write 1, .write 2, .write 3] phase cancelled)

/-- A survey read of LT5 on the bus, for entry 2. -/
def surveyReading : State :=
  surveyed 0 (.reading ⟨100, 0⟩ .waiting) (seg1 (.busy ⟨.survey 2, some 5, [.addressRead 0x20, .read false],
    .transfer, ⟨false, false, false⟩⟩) (mapped .active 1 State.reset))

/-- An alert query on SEG1. -/
def alertState : State :=
  seg1 (.busy ⟨.alert, none, [.addressRead 0x0C, .read false], .transfer, ⟨false, false, false⟩⟩)
    (mapped .active 0 State.reset)

/-- SEG1 RECOVERING. -/
def recovering : State := seg1 (.recovering ⟨0, .check, none⟩) State.reset

/-- SEG1 IDLE with its alert input asserted and watched, and collection suspended. -/
def alerting (suspended : Bool) : State :=
  State.reset.putSeg 1 { Segment.reset with
    state := .idle, alertLow := true, config := { SegConfig.reset with alertEnable := true }
    alert := ⟨some 0x20, 3, 1, suspended⟩ }

theorem noneQueued_of_nil {s : State} (h : s.rq = []) : s.noneQueued := by
  intro e he; rw [h] at he; cases he

theorem linesFree_of_high {g : Segment} (h : g.clockLine.high = true) (k : g.dataLine.high = true) :
    g.linesFree := by
  intro l hl
  rcases List.mem_cons.1 hl with rfl | hl
  · exact .inl h
  · rw [List.mem_singleton.1 hl]; exact .inl k

theorem idle_notBusy {g : Segment} (h : g.state = .idle) : ∀ c, g.state ≠ .busy c := by
  intro c e; rw [h] at e; cases e

theorem carries_running (r : Request) (st : SlotState) (k : Bool) (d : Option Bool) (g : SegState)
    (h : r.target = .lt 5) :
    (running r st k d g).carries 9 (opSlot st r.kind) 3 (context r k d) := by
  refine ⟨?_, ?_, rfl, rfl, rfl, rfl, rfl, h, rfl, rfl⟩ <;> simp [running]

theorem only_slot9 {s : State} {o : OpSlot} (h : s.slots = put (Vector.replicate 24 none) 9 (some o)) :
    ∀ j p, s.slot j = some p → j = 9 := by
  intro j p hp
  simp only [State.slot, h, look_put] at hp
  split at hp
  · next e => exact e.symm
  · simp at hp

/-! ### Well-formedness: one ill-formed command for each check -/

theorem test_wf_header_too_long : Instr.wellFormed (.frameStart [0, 0, 0, 0]) = false := by decide
theorem test_wf_time_address : Instr.wellFormed (.timeCapture 0x006) = false := by decide
theorem test_wf_completion_address : Instr.wellFormed (.cqHeadCapture 0x0BA) = false := by decide
theorem test_wf_notice_address : Instr.wellFormed (.nqHeadCapture 0x0DF) = false := by decide
theorem test_wf_mirror_address : Instr.wellFormed (.mirrorSnapshot 0x1FF) = false := by decide
theorem test_wf_stretch_too_long :
    Instr.wellFormed (.stretchLimitExpiry 0 ⟨List.replicate 67 .acked, 0⟩ ⟨true, true⟩) = false := by decide
theorem test_wf_stop_too_long :
    Instr.wellFormed (.stopAtByteBoundary 0 ⟨List.replicate 67 .acked, 0⟩) = false := by decide
theorem test_wf_transaction_too_long :
    Instr.wellFormed (.transactionEnd 0 ⟨List.replicate 67 .acked, 0⟩ ⟨true, true⟩) = false := by decide
theorem test_wf_stop_beyond_bytes :
    Instr.wellFormed (.stopAtByteBoundary 0 ⟨[.acked], 2⟩) = false := by decide
theorem test_wf_longest_accepted :
    Instr.wellFormed (.transactionEnd 0 ⟨List.replicate 66 .acked, 66⟩ ⟨true, true⟩) = true := by decide

/-! ### Decoding: no row carries bits (log 23) -/

theorem test_decode_none : decodeTableWord 8 0x01 = none := by decide

/-! ### Frames and the window -/

theorem test_frame_start :
    (after (.frameStart [0x80, 0xFE, 0x10]) State.reset).port.frame = .data true 0x210 true := by
  decide +kernel
theorem test_frame_end_orders_marks :
    (after (.frameEnd false) { State.reset with port := { (inFrame false 0x080 State.reset).port with
      marks := [.execute, .submit] } }).port.actions = [.submit, .execute] := by decide +kernel
theorem test_frame_end_mid_byte :
    (after (.frameEnd true) (inFrame false 0x080 State.reset)).irq.hostMisuse = true := by decide +kernel
theorem test_window_write_marks_submit :
    (after (.windowWrite 0x01) (inFrame false 0x07E State.reset)).port.marks = [.submit] := by
  decide +kernel
theorem test_window_write_wraps :
    (after (.windowWrite 0) (inFrame false 0x3FF State.reset)).port.frame = .data false 0x000 false := by
  decide +kernel
theorem test_threshold_top :
    (after (.cqThresholdWrite 32) (inFrame false 0x012 State.reset)).completion.threshold = 32 := by
  decide +kernel
theorem test_threshold_refused :
    (after (.cqThresholdWrite 33) (inFrame false 0x012 State.reset)).irq.hostMisuse = true := by
  decide +kernel
theorem test_coalesce :
    (after (.coalesceTimeWrite 255) (inFrame false 0x013 State.reset)).completion.coalesce = 255 := by
  decide +kernel
theorem test_enables_drive_irq :
    (after (.enablesWrite 0x08) (latchMisuse (inFrame false 0x011 State.reset))).irq.irqN = false := by
  decide +kernel
theorem test_time_capture :
    (after (.timeCapture 0x004) (atTime 0x1234 (inFrame true 0x004 State.reset))).readByte 0x005 = 0x12 := by
  decide +kernel
theorem test_cq_capture_status :
    (after (.cqHeadCapture 0x080) (inFrame true 0x080 (State.reset.withRecord record))).readByte 0x081 =
      0x01 := by decide +kernel
theorem test_nq_capture_kind :
    (after (.nqHeadCapture 0x0E0) (inFrame true 0x0E0
      { State.reset with notices := ⟨[notice], 0⟩ })).readByte 0x0E0 = 0x0A := by decide +kernel
theorem test_mirror_snapshot_stands :
    ((after (.mirrorSnapshot 0x220) (inFrame true 0x220 (State.reset.putMirror 2 (mirrorVal .valid)))).putMirror
      2 (mirrorVal .stale)).readByte 0x222 = 1 := by decide +kernel

theorem test_capture_passes_plain_bytes :
    (after (.cqHeadCapture 0x080) (inFrame true 0x07E State.reset)).port.frame = .data true 0x081 false := by
  decide +kernel
theorem test_capture_passes_no_capture :
    (after (.nqHeadCapture 0x0E0) (inFrame true 0x0B9 State.reset)).port.nqCapture = none := by
  decide +kernel
theorem test_output_in_write_frame : (inFrame false 0x000 State.reset).hostOutput = some 0 := by decide +kernel
theorem test_output_reenters_mirror_slot :
    (inFrame true 0x210 ((after (.mirrorSnapshot 0x210) (inFrame true 0x210 State.reset)).putMirror 1
      (mirrorVal .valid))).hostOutput = some 4 := by
  decide +kernel
theorem test_output_in_read_frame : (inFrame true 0x000 State.reset).hostOutput = some 0x5C := by
  decide +kernel

/-! ### Resets and actions -/

theorem test_soft_reset :
    (after .softReset (handed [.softReset, .pause] (mapped .active 1 State.reset))).port.actions = [] := by
  decide +kernel
theorem test_device_reset_frees :
    ((after .deviceReset (mapped .active 1 State.reset)).entry 5).binding = none := by decide +kernel
theorem test_reset_release :
    (after .resetRelease (after .deviceReset State.reset)).port.resetN = true := by decide +kernel
theorem test_engine_reset_keeps_transfer :
    ((after .engineReset (handed [.engineReset] (readState 0))).seg 1).state =
      .busy ⟨.host 9 .read, some 5, [.addressRead 0x20, .read true, .read false], .transfer,
        ⟨false, false, true⟩⟩ := by
  decide +kernel
theorem test_engine_reset_reference :
    ((after .engineReset (handed [.engineReset] (readState 0))).entry 5).refCount = 1 := by decide +kernel
theorem test_pause : (after .pause (handed [.pause] State.reset)).paused = true := by decide +kernel
theorem test_resume_admits :
    ((after .resume (handed [.resume] (withRq [queuedEntry .probe 0] (seg1 .idle (mapped .active 0
      { State.reset with paused := true }))))).ctx 0).isSome = true := by decide +kernel
theorem test_clear_rq_space :
    (after .clearRqSpace (handed [.clearRqSpace] (latchRqSpace State.reset))).irq.rqSpace = false := by
  decide +kernel
theorem test_clear_host_misuse :
    (after .clearHostMisuse (handed [.clearHostMisuse] (latchMisuse State.reset))).irq.hostMisuse = false := by
  decide +kernel
theorem test_submit_granted_at_once :
    ((after .submit (staged [7, 2, 0, 5, 0, 1, 0, 0, 0, 4] (seg1 .idle (mapped .active 0 State.reset)))).seg
      1).state = .busy ⟨.host 0 .read, some 5, .addressRead 0x20 :: (List.replicate 3 (.read true) ++ [.read false]),
        .waitFree, ⟨false, false, false⟩⟩ := by decide +kernel
theorem test_submit_free_target :
    (after .submit (staged [7, 2, 0, 5, 0, 1, 0, 0, 0, 4] State.reset)).port.submitResult =
      .unknownTarget := by decide +kernel
theorem test_cq_pop :
    (after .cqPop (handed [.cqPop] (State.reset.withRecord record))).completion.cq = [] := by decide +kernel
theorem test_nq_pop_after_engine_reset :
    let s := (writeState (.stopping ⟨.stretchTimeout, 1, true, []⟩) false).putEntry 5 ⟨some (bindAt .active), 2, 1⟩
    let t := after .engineReset (handed [.engineReset, .nqPop] s)
    (t.entry 5).binding = some (bindAt .isolated) ∧ (after .nqPop t).irq.hostMisuse = true := by decide +kernel
theorem test_nq_pop_empty : (after .nqPop (handed [.nqPop] State.reset)).irq.hostMisuse = true := by
  decide +kernel

/-! ### Control commands -/

theorem test_map_set :
    ((after .mapSet (commanded 0x01 [5, 1, 0x20, 3, 1] State.reset)).entry 5) =
      ⟨some (bindAt .active), 0, 0⟩ := by decide +kernel
theorem test_map_set_conflict :
    (after .mapSet (commanded 0x01 [6, 1, 0x20, 3, 1] (mapped .active 0 State.reset))).port.commandResult =
      .conflict := by decide +kernel
theorem test_map_retire_drains :
    (((after .mapRetire (commanded 0x02 [5] (mapped .active 1 State.reset))).entry 5).binding.map (·.state)) =
      some .draining := by decide +kernel
theorem test_map_reinstate :
    ((after .mapReinstate (commanded 0x03 [5] (mapped .isolated 0 State.reset))).entry 5) =
      ⟨some (bindAt .active), 0, 0⟩ := by decide +kernel
theorem test_map_read :
    (after .mapRead (commanded 0x04 [5] (mapped .isolated 2 State.reset))).port.args.toList.take 9 =
      [5, 2, 1, 0x20, 3, 1, 0, 2, 0] := by decide +kernel
theorem test_group_set_too_large :
    (after .groupSet (commanded 0x05 [0, 0xFF, 0xFF, 0x01] State.reset)).port.commandResult =
      .badArgument := by decide +kernel
theorem test_group_read :
    (after .groupRead (after .groupSet (commanded 0x05 [7, 0x21, 0, 0, 0, 0, 0, 0, 0x80, 2, 3]
      State.reset))).port.commandResult = .done := by decide +kernel
theorem test_segment_config :
    ((after .segmentConfig (commanded 0x07 [3, 2, 9, 8, 7, 0, 1, 0x77, 1] State.reset)).seg 3).config =
      ⟨.fastPlus, 9, 8, 7, 0, 1, 0x77, true⟩ := by decide +kernel
theorem test_segment_enable :
    ((after .segmentEnable (commanded 0x08 [1] State.reset)).seg 1).state = .idle := by decide +kernel
theorem test_segment_disable_waits :
    ((after .segmentDisable (commanded 0x09 [1] (readState 0))).seg 1).state =
      .busy ⟨.host 9 .read, some 5, [.addressRead 0x20, .read true, .read false], .transfer,
        ⟨false, true, false⟩⟩ := by
  decide +kernel
theorem test_segment_clear :
    ((after .segmentClear (commanded 0x0A [1] (seg1 (.faulted ⟨16, .check, some .data⟩) State.reset))).seg
      1).state = .recovering ⟨0, .clear, none⟩ := by decide +kernel
theorem test_alert_resume :
    ((after .alertResume (commanded 0x0B [1] (alerting true))).seg 1).alert = ⟨none, 0, 0, false⟩ := by
  decide +kernel
theorem test_alert_resume_low_line_waits :
    ((after .alertResume (commanded 0x0B [1] ((alerting true).putSeg 1 { (alerting true).seg 1 with
      clockLine := ⟨false, 349⟩, busFree := true }))).seg 1).state =
        .busy ⟨.alert, none, [.addressRead 0x0C, .read false], .waitFree, ⟨false, false, false⟩⟩ := by
  decide +kernel
theorem test_survey_set :
    ((after .surveySet (commanded 0x0C ([2, 5, 0, 0, 1, 100, 0] ++ List.replicate 27 0 ++ [3, 0])
      (mapped .active 0 State.reset))).sv 2).setup = some ⟨surveyConf 0, .stopped⟩ := by decide +kernel
theorem test_survey_start_reads_at_once :
    ((after .surveyStart (commanded 0x0D [2] (surveyed 0 .stopped (seg1 .idle
      (mapped .active 0 State.reset))))).svRun 2) = some (.reading ⟨0, 0⟩ .waiting) := by decide +kernel
theorem test_survey_stop_reading :
    ((after .surveyStop (commanded 0x0E [2] surveyReading)).svRun 2) = some (.reading ⟨100, 0⟩ .stopped) := by
  decide +kernel
theorem test_survey_read_due_time :
    ((after .surveyRead (commanded 0x0F [2] surveyReading)).arg 37) = 100 := by decide +kernel
theorem test_cancel_marks :
    ((after .cancel (commanded 0x10 [7] (readState 0))).slot 9).map (·.state) = some (.active true) := by
  decide +kernel
theorem test_cancel_not_found :
    (after .cancel (commanded 0x10 [8] (readState 0))).port.commandResult = .notFound := by decide +kernel
theorem test_unknown_command :
    (after .unknownCommand (commanded 0x11 [] State.reset)).port.commandResult = .unknownCommand := by
  decide +kernel

/-! ### Time -/

theorem test_tick : (after (.tick ⟨true, true, false, false⟩ ⟨false, true, false, false⟩
    ⟨true, true, false, false⟩ ⟨true, true, true, false⟩) State.reset).seg 1 =
      { Segment.reset with clockLine := ⟨false, 0⟩, dataLine := ⟨true, 1⟩ } := by decide +kernel
theorem test_time_step :
    (after .timeStep { State.reset with timebase := ⟨65535, 9, 10⟩ }).timebase = ⟨0, 9, 0⟩ := by
  decide +kernel
theorem test_backoff_wraps :
    ((after (.backoffExpiry 9) (atTime 3 (running (request .probe 1 0 [] 0) (.backoff 65530 4) false none
      (.recovering ⟨0, .check, none⟩)))).slot 9).map (·.state) = some (.backoff 65530 4) := by decide +kernel
theorem test_queued_deadline :
    ((after (.queuedDeadlineExpiry 7) (atTime 501 (withRq [queuedEntry .probe 500]
      State.reset))).completion.cq.map fun c => (c.record.status, c.record.finishTime)) =
        [(.of .expired, 500)] := by decide +kernel
theorem test_context_deadline :
    ((after (.contextDeadlinePasses 3) (atTime 500 (readState 500))).ctx 3).map (·.deadlinePassed) =
      some (some true) := by decide +kernel
theorem test_survey_falls_due :
    (after (.surveyFallsDue 2) (atTime 100 (surveyed 0 (.waiting ⟨100, 0⟩) (seg1 .idle
      (mapped .active 0 State.reset))))).entry 5 = ⟨some (bindAt .active), 0, 1⟩ := by decide +kernel

/-! ### The buses -/

theorem test_bus_free_starts :
    ((after (.busFreeDetected 1) (writeState .waitFree false)).seg 1).state =
      onBus .write [.addressWrite 0x20, .write 1, .write 2, .write 3] .transfer false := by decide +kernel
theorem test_bus_start_seen :
    ((after (.busStartSeen 1) (State.reset.putSeg 1 { Segment.reset with
      state := .idle, busFree := true })).seg 1).busFree = false := by decide +kernel
theorem test_busy_limit_backs_off :
    ((after (.busyLimitExpiry 1) (writeState .waitFree false)).slot 9).map (·.state) =
      some (.backoff 0 10) := by decide +kernel
theorem test_stretch_limit :
    ((after (.stretchLimitExpiry 1 ⟨[.acked, .read 0x11 true], 0⟩ ⟨true, true⟩) (readState 0)).seg 1).state =
      onBus .read [.addressRead 0x20, .read true, .read false] (.stopping ⟨.stretchTimeout, 0, true, []⟩) false := by
  decide +kernel
theorem test_stop_at_boundary :
    ((after (.stopAtByteBoundary 1 ⟨[.acked, .acked], 1⟩) (writeState .transfer true)).completion.cq.map
      fun c => (c.record.status, c.record.bytesAcked)) = [(.of .cancelled, some 1)] := by decide +kernel
theorem test_first_boundary_is_kept :
    after (.stopAtByteBoundary 1 ⟨[.acked, .acked], 0⟩) (writeState .transfer true) =
      judgeIrq (writeState .transfer true) := by decide +kernel
theorem test_stop_request_ends_the_run :
    after (.transactionEnd 1 ⟨[.acked, .acked, .acked, .acked], 1⟩ ⟨true, true⟩) (writeState .transfer true) =
      judgeIrq (writeState .transfer true) := by decide +kernel
theorem test_engine_ends_a_read_unacknowledged :
    after (.transactionEnd 1 ⟨[.acked, .read 0xAB true, .read 0xCD true], 0⟩ ⟨true, true⟩) (readState 0) =
      judgeIrq (readState 0) := by decide +kernel
theorem test_stretch_at_closing_stop :
    ((after (.stretchLimitExpiry 1 ⟨[.nacked], 0⟩ ⟨true, true⟩) (readState 0)).seg 1).state =
      onBus .read [.addressRead 0x20, .read true, .read false] (.stopping ⟨.stretchTimeout, 0, false, []⟩)
        false := by decide +kernel
theorem test_transaction_end_reads :
    ((after (.transactionEnd 1 ⟨[.acked, .read 0xAB true, .read 0xCD false], 0⟩ ⟨true, true⟩)
      (readState 0)).completion.cq.map (·.record.result)) = [some [0xAB, 0xCD]] := by decide +kernel
theorem test_transaction_end_survey :
    (after (.transactionEnd 1 ⟨[.acked, .read 0x42 false], 0⟩ ⟨true, true⟩) surveyReading).mirrorSlot 2 =
      ⟨1, .valid, 1, 0x42, 0⟩ := by decide +kernel
theorem test_alert_query_answered :
    ((after (.transactionEnd 1 ⟨[.acked, .read 0x41 false], 0⟩ ⟨true, true⟩) alertState).notices.nq.map (·.body)) =
      [.alert 5 1 0x20 .active] := by decide +kernel
theorem test_alert_asserted :
    ((after (.alertAsserted 1) ((alerting false).putSeg 1 { (alerting false).seg 1 with
      alertLow := false })).seg 1).state.code = 2 := by decide +kernel
theorem test_alert_released :
    ((after (.alertReleased 1) (alerting true)).seg 1).alert = ⟨none, 0, 0, true⟩ := by decide +kernel
theorem test_recovery_succeeds :
    ((after (.recoverySucceeds 1 [⟨true, false⟩, ⟨true, true⟩, ⟨true, true⟩]) recovering).notices.nq.map
      (·.body)) = [.segmentRecovered 1 1 .check] := by decide +kernel
theorem test_recovery_keeps_line_time :
    ((after (.recoveryFails 1 ⟨[⟨true, false⟩, ⟨false, false⟩], false⟩) (recovering.putSeg 1 { recovering.seg 1 with
      clockLine := ⟨false, 250⟩ })).seg 1).clockLine = ⟨false, 250⟩ := by decide +kernel
theorem test_recovery_keeps_data_time :
    let s := recovering.putSeg 1 { recovering.seg 1 with dataLine := ⟨false, 40⟩ }
    let g := (after (.recoveryFails 1
      ⟨List.replicate 16 ⟨true, false⟩ ++ [⟨true, true⟩, ⟨true, false⟩], false⟩) s).seg 1
    g.dataLine = ⟨false, 40⟩ ∧ g.state = .faulted ⟨16, .check, some .data⟩ := by decide +kernel

/-! ### Witnesses: states and operands that meet the hypotheses of each statement, each clause at an end
of its range -/

theorem witness_StepTakesFrontCommand : State.reset.pending = [] := rfl

theorem witness_next : exec .pause State.reset = .next (judgeIrq State.reset) := rfl

theorem witness_IrqFollowsCauses :
    ∃ t, exec (.enablesWrite 0x0F) (inFrame false 0x011 State.reset) = .next t := ⟨_, rfl⟩

/-- Every queue full. -/
def fullQueues : State :=
  { State.reset with
    rq := List.replicate 32 (queuedEntry .probe 0)
    completion := ⟨[], List.replicate 32 ⟨record, 0⟩, 1, 0⟩
    notices := ⟨List.replicate 16 notice, 255⟩
    pending := [.pause] }

theorem witness_CapacityLawKept : CapacityLaw fullQueues ∧ ∃ t, step fullQueues = .next t :=
  ⟨by unfold CapacityLaw; decide +kernel, _, rfl⟩

theorem witness_TagLawKept : TagLaw { readState 0 with
      rq := [⟨{ request .probe 0 0 [] 0 with tag := 8 }, 0, none, none⟩], pending := [.pause] } ∧
    ∃ t, step { readState 0 with
      rq := [⟨{ request .probe 0 0 [] 0 with tag := 8 }, 0, none, none⟩], pending := [.pause] } = .next t :=
  ⟨by unfold TagLaw; decide +kernel, _, rfl⟩

/-- Two bindings at the ends of the address range. -/
def twoBound : State :=
  (State.reset.putEntry 0 ⟨some ⟨.active, 0, 0x08, 0, false⟩, 0, 0⟩).putEntry 63
    ⟨some ⟨.active, 0, 0x77, 0, false⟩, 0, 0⟩

theorem twoBound_binding (n : LtId) (b : Binding) (h : (twoBound.entry n).binding = some b) :
    (n = 0 ∧ b = ⟨.active, 0, 0x08, 0, false⟩) ∨ (n = 63 ∧ b = ⟨.active, 0, 0x77, 0, false⟩) := by
  simp only [twoBound, State.entry_putEntry] at h
  split at h
  · next e => exact .inr ⟨e.symm, by simpa using h.symm⟩
  · split at h
    · next e => exact .inl ⟨e.symm, by simpa using h.symm⟩
    · simp [State.entry, State.reset, MapEntry.free] at h

theorem witness_AddressLawKept :
    AddressLaw twoBound ∧ AddressRangeLaw twoBound ∧ ∃ t, step twoBound = .next t := by
  refine ⟨⟨fun m n a b ha hb _ h => ?_, fun n b hb => ?_⟩, ⟨fun n b hb => ?_, ?_⟩, _, rfl⟩
  · rcases twoBound_binding m a ha with ⟨rfl, rfl⟩ | ⟨rfl, rfl⟩ <;>
      rcases twoBound_binding n b hb with ⟨rfl, rfl⟩ | ⟨rfl, rfl⟩ <;> first | rfl | exact absurd h (by decide)
  · rcases twoBound_binding n b hb with ⟨rfl, rfl⟩ | ⟨rfl, rfl⟩ <;> decide +kernel
  · rcases twoBound_binding n b hb with ⟨rfl, rfl⟩ | ⟨rfl, rfl⟩ <;> (unfold inBusRange; decide)
  · unfold inBusRange; decide +kernel

theorem witness_ConfigurationKept :
    (Instr.mapReinstate ≠ .mapSet ∧
      ∃ t, exec .mapReinstate (commanded 0x03 [5] (mapped .isolated 0 State.reset)) = .next t) ∧
    ((∃ t, exec .segmentConfig (commanded 0x07 [3, 2, 9, 8, 7, 0, 1, 0x77, 1] State.reset) = .next t) ∧
      ((after .segmentConfig (commanded 0x07 [3, 2, 9, 8, 7, 0, 1, 0x77, 1] State.reset)).seg 3).config ≠
        ((commanded 0x07 [3, 2, 9, 8, 7, 0, 1, 0x77, 1] State.reset).seg 3).config) ∧
    ((∃ t, exec .deviceReset (alerting false) = .next t) ∧
      ((after .deviceReset (alerting false)).seg 1).config ≠ ((alerting false).seg 1).config) ∧
    (∃ t, exec .surveyStop (commanded 0x0E [2] surveyReading) = .next t) ∧
    Instr.surveyStop ∉ [.surveySet, .softReset, .deviceReset] :=
  ⟨⟨by decide, _, rfl⟩, ⟨⟨_, rfl⟩, by decide +kernel⟩, ⟨⟨_, rfl⟩, by decide +kernel⟩, ⟨_, rfl⟩, by decide⟩

theorem witness_EventsLeaveTheHostSide :
    ofSlotOrBus (.transactionEnd 1 ⟨[.acked, .read 0 false], 0⟩ ⟨true, true⟩) ∧
    ∃ t, exec (.transactionEnd 1 ⟨[.acked, .read 0 false], 0⟩ ⟨true, true⟩) surveyReading = .next t :=
  ⟨trivial, _, rfl⟩

theorem witness_FrameStartTakesHeader :
    State.reset.port.csN = true ∧ State.reset.port.resetN = true := ⟨rfl, rfl⟩

theorem witness_FrameEndHandsOutMarks : (inFrame false 0x080 State.reset).port.csN = false := rfl

theorem witness_PlainBytesLand :
    ∀ a ∈ ([0x053, 0x07C, 0x07E, 0x100, 0x101, 0x13C] : List WinAddr),
      (inFrame false a State.reset).writingAt a ∧ plainByte a :=
  have h : ∀ a ∈ ([0x053, 0x07C, 0x07E, 0x100, 0x101, 0x13C] : List WinAddr), plainByte a := by
    unfold plainByte; decide +kernel
  fun a ha => ⟨⟨_, rfl⟩, h a ha⟩

theorem witness_UnwritableBytesLatchMisuse :
    ∀ a ∈ ([0x000, 0x003, 0x052, 0x07F, 0x0DE, 0x13D, 0x200, 0x3FF] : List WinAddr),
      (inFrame false a State.reset).writingAt a ∧ ¬ writable a :=
  have h : ∀ a ∈ ([0x000, 0x003, 0x052, 0x07F, 0x0DE, 0x13D, 0x200, 0x3FF] : List WinAddr),
      ¬ writable a := by unfold writable; decide +kernel
  fun a ha => ⟨⟨_, rfl⟩, h a ha⟩

theorem witness_WritesMarkActions :
    (∀ a : WinAddr, (inFrame false a State.reset).writingAt a) ∧ State.reset.port.marks.Nodup ∧
    ∀ a ∈ ([0x002, 0x010, 0x0DF, 0x0FF, 0x13F] : List WinAddr), actionByte a :=
  ⟨fun _ => ⟨_, rfl⟩, List.nodup_nil, by unfold actionByte; decide +kernel⟩

theorem witness_SettingBytesLand :
    (∀ a : WinAddr, (inFrame false a State.reset).writingAt a) ∧
    (∀ v ∈ ([1, 32] : List Byte), 1 ≤ v.toNat ∧ v.toNat ≤ 32) ∧
    ∀ v ∈ ([0, 33, 255] : List Byte), v.toNat = 0 ∨ 32 < v.toNat :=
  ⟨fun _ => ⟨_, rfl⟩, by decide +kernel⟩

theorem witness_CapturesTaken :
    (∀ a : WinAddr, (inFrame true a State.reset).readingAt a) ∧
    ((∀ a ∈ ([0x004, 0x005] : List WinAddr), isTimeAddr a = true) ∧
      (inFrame true 0x004 State.reset).port.timeCapture = none ∧
      (after (.timeCapture 0x004) (inFrame true 0x004 State.reset)).port.timeCapture ≠ none ∧
      (∀ a ∈ ([0x080, 0x0B9] : List WinAddr), isCompletionAddr a = true) ∧
      (inFrame true 0x080 State.reset).port.cqCapture = none ∧
      (after (.cqHeadCapture 0x080) (inFrame true 0x080 State.reset)).port.cqCapture ≠ none ∧
      (∀ a ∈ ([0x0E0, 0x0EC] : List WinAddr), isNoticeAddr a = true) ∧
      (inFrame true 0x0E0 State.reset).port.nqCapture = none ∧
      (after (.nqHeadCapture 0x0E0) (inFrame true 0x0E0 State.reset)).port.nqCapture ≠ none) ∧
    ((0x200 : WinAddr).toNat / 16 = 32 + (0 : SvId).val ∧ (0x200 : WinAddr).toNat % 16 = 0 ∧
      (0x3FF : WinAddr).toNat / 16 = 32 + (31 : SvId).val ∧ (0x201 : WinAddr).toNat % 16 ≠ 0 ∧
      look (inFrame true 0x3FF State.reset).port.snapshots 31 = none ∧
      look (after (.mirrorSnapshot 0x200) (inFrame true 0x200 State.reset)).port.snapshots 0 ≠ none) ∧
    ((∀ k < ((0x080 : WinAddr) - 0x07E).toNat,
        ¬ (inFrame true 0x07E State.reset).capturesAt (0x07E + BitVec.ofNat 10 k)) ∧
      (0 < ((0x0E0 : WinAddr) - 0x0B9).toNat ∧
        (inFrame true 0x0B9 State.reset).capturesAt (0x0B9 + BitVec.ofNat 10 0))) :=
  ⟨fun _ => ⟨_, rfl⟩, by decide +kernel, by decide +kernel, by unfold State.capturesAt; decide +kernel⟩

theorem witness_ReadFrameIsDriven :
    let s := after (.timeCapture 0x004) (inFrame true 0x004 State.reset)
    let u := after (.cqHeadCapture 0x080) (inFrame true 0x080 (State.reset.withRecord record))
    let v := after (.nqHeadCapture 0x0E0) (inFrame true 0x0E0 State.reset)
    let w := after (.mirrorSnapshot 0x3FF) (inFrame true 0x3FF State.reset)
    ((atTime 9 s).port = s.port ∧ isTimeAddr 0x005 = true ∧ s.port.timeCapture = some 0) ∧
    ((u.withRecord record).port = u.port ∧ isCompletionAddr 0x0B9 = true ∧
      u.port.cqCapture = some (some record) ∧ u.completion.cq = ⟨record, 0⟩ :: []) ∧
    ((v.withNotice notice.body).port = v.port ∧ isNoticeAddr 0x0EC = true ∧
      v.port.nqCapture = some none ∧ v.notices.nq = []) ∧
    ((w.putMirror 31 (mirrorVal .valid)).port = w.port ∧
      (0x3F0 : WinAddr).toNat / 16 = 32 + (31 : SvId).val ∧ look w.port.snapshots 31 ≠ none) ∧
    (State.reset.port.frame = .noFrame ∧ (inFrame false 0x07E State.reset).writingAt 0x07E ∧
      (inFrame true 0x07E State.reset).readingAt 0x07E ∧
      ¬ (inFrame true 0x07E State.reset).capturesAt 0x07E ∧
      (inFrame true 0x3F0 w).readingAt 0x3F0 ∧ (inFrame true 0x3F0 w).capturesAt 0x3F0) :=
  ⟨⟨rfl, by decide +kernel⟩, ⟨rfl, by decide +kernel⟩, ⟨rfl, by decide +kernel⟩,
    ⟨rfl, by decide +kernel⟩, rfl, ⟨_, rfl⟩, ⟨_, rfl⟩, by unfold State.capturesAt; decide +kernel,
    ⟨_, rfl⟩, .inr (.inr (.inr ⟨31, by decide, .inl rfl⟩))⟩

/-- For DeviceResetValues, DeviceResetClearsWorkAndSurvey, GroupTableThroughResets and
EngineResetEmptiesQueues. -/
theorem witness_resets :
    (handed [.softReset, .pause] (readState 0)).atAction .softReset [.pause] ∧
    (readState 0).port.resetN = true ∧
    (handed [.engineReset] fullQueues).atAction .engineReset [] ∧
    ((handed [.engineReset] fullQueues).seg 0).state = .disabled ∧
    ((seg1 (.faulted ⟨16, .check, some .data⟩) fullQueues).seg 1).state =
      .faulted ⟨16, .check, some .data⟩ :=
  ⟨rfl, rfl, rfl, rfl, rfl⟩

/-- A quiet state at an engine reset: SEG1 in TRANSFER for LT5, SEG2 IDLE, LT9 DRAINING. -/
def quiet : State :=
  handed [.engineReset] ((surveyReading.inState 2 .idle).putEntry 9 ⟨some ⟨.draining, 2, 0x30, 0, false⟩, 0, 1⟩)

theorem witness_EngineResetEmptiesQueues : quiet.atAction .engineReset [] ∧
    (∀ i, (quiet.seg i).state = .disabled ∨ (quiet.seg i).state = .idle ∨
      (∃ r, (quiet.seg i).state = .faulted r) ∨
      ∃ c, (quiet.seg i).state = .busy c ∧ c.phase = .transfer) ∧
    quiet.inProgress 5 ∧ ¬ quiet.inProgress 9 ∧
    (quiet.entry 9).binding = some ⟨.draining, 2, 0x30, 0, false⟩ ∧
    (quiet.sv 2).setup = some ⟨surveyConf 0, .reading ⟨100, 0⟩ .waiting⟩ := by
  have e : ∀ i : SegId, (quiet.seg i).state = .disabled ∨ (quiet.seg i).state = .idle ∨
      (quiet.seg i).state = .busy ⟨.survey 2, some 5, [.addressRead 0x20, .read false], .transfer,
        ⟨false, false, false⟩⟩ := by decide +kernel
  refine ⟨rfl, fun i => ?_, ⟨1, _, rfl, rfl⟩, ?_, by decide +kernel⟩
  · rcases e i with h | h | h
    · exact .inl h
    · exact .inr (.inl h)
    · exact .inr (.inr (.inr ⟨_, h, rfl⟩))
  · rintro ⟨i, c, h, hl⟩
    rcases e i with g | g | g <;> rw [g] at h <;> cases h
    cases hl

theorem witness_PauseResumeAndClears :
    (handed [.pause] State.reset).atAction .pause [] ∧ (handed [.resume] State.reset).atAction .resume [] ∧
    (handed [.clearRqSpace] State.reset).atAction .clearRqSpace [] ∧
    (handed [.clearHostMisuse] State.reset).atAction .clearHostMisuse [] ∧
    (handed [.resume] State.reset).paused = false ∧
    (handed [.resume] { State.reset with paused := true }).paused = true := by
  unfold State.atAction
  decide +kernel

/-- A QUEUED PROBE of LT5, bound on an IDLE segment or not at all. -/
def asked (bound : Bool) : State :=
  withRq [queuedEntry .probe 0] (if bound then seg1 .idle (mapped .active 0 State.reset) else State.reset)

/-- A QUEUED PROBE of the group with LT5 and LT63 alone. -/
def groupAsked : State :=
  { withRq [⟨{ request .probe 0 0 [] 0 with target := .group 7 }, 0, none, none⟩] State.reset with
    groups := put State.reset.groups 7 ⟨0x8000000000000020, .all⟩ }

/-- A PROBE of LT5 with another tag. -/
def probeTagged (tag : Byte) : Request := { request .probe 0 0 [] 0 with tag := tag }

/-- `asked` with every context taken, by requests with tags from 100 on. -/
def crowded : State :=
  { asked true with
    contexts := .ofFn fun c => some (context (probeTagged (BitVec.ofNat 8 (100 + c.val))) false none) }

theorem witness_ExaminationOfCandidate :
    (candidate (asked true) = some (queuedEntry .probe 0) ∧
      (asked true).liveTargets (request .probe 0 0 [] 0) = [(5, 0)] ∧ (asked true).ctx 0 = none ∧
      (1 ≤ ((List.finRange 24).filter fun k => ((asked true).slot k).isNone).length)) ∧
    (candidate crowded = some (queuedEntry .probe 0) ∧ TagLaw crowded ∧
      crowded.liveTargets (request .probe 0 0 [] 0) ≠ [] ∧ ∀ c, crowded.ctx c ≠ none) ∧
    (candidate (asked false) = some (queuedEntry .probe 0) ∧
      (asked false).liveTargets (request .probe 0 0 [] 0) = [] ∧
      resolve (asked false) .probe 5 = .failed .targetRetired) ∧
    ((candidate groupAsked).map (·.request.target) = some (.group 7) ∧
      groupAsked.liveTargets { request .probe 0 0 [] 0 with target := .group 7 } = []) ∧
    (TagLaw (asked true) ∧ TagLaw (asked false) ∧ TagLaw groupAsked) ∧
    ((examineOnce (asked true)).isSome = true ∧ candidate State.reset = none) := by
  unfold TagLaw
  decide +kernel

theorem witness_CandidateRule : (withRq [queuedEntry .probe 0] State.reset).paused = false := rfl

theorem witness_ResolutionTable :
    ((State.reset.entry 5).binding = none ∧
      (∀ st ∈ [Bound.active, .isolated, .draining],
        ((mapped st 0 State.reset).entry 5).binding = some (bindAt st) ∧ (bindAt st).state = st) ∧
      ((mapped .active 0 State.reset).seg 1).state = .disabled ∧
      ((seg1 (.faulted ⟨16, .check, some .data⟩) (mapped .active 0 State.reset)).seg 1).state =
        .faulted ⟨16, .check, some .data⟩ ∧ (recovering.seg 1).state ≠ .disabled) ∧
    ∀ r, (recovering.seg 1).state ≠ .faulted r :=
  ⟨by decide +kernel, nofun⟩

/-- SEG1 with slot 9, for LT5, listed. -/
def listed : State :=
  (running (request .probe 0 0 [] 0) .pending false none (.recovering ⟨0, .check, none⟩)).putSeg 1
    { Segment.reset with state := .recovering ⟨0, .check, none⟩, pendingList := [9] }

theorem listed_slot {z : SlotId} {p : OpSlot} (h : listed.slot z = some p) :
    z = 9 ∧ p = opSlot .pending .probe := by
  have hz := only_slot9 rfl z p h
  subst hz
  have e : listed.slot 9 = some (opSlot .pending .probe) := by decide +kernel
  rw [e] at h
  exact ⟨rfl, (Option.some.inj h).symm⟩

theorem witness_PlacementOfOperations :
    ((0 : SlotId) ∉ (listed.seg 1).pendingList ∧ (listed.seg 1).pendingList = [] ++ 9 :: [] ∧
      listed.slot 9 = some (opSlot .pending .probe) ∧ (opSlot .pending .probe).lt = 5) ∧
    ∀ z ∈ (listed.seg 1).pendingList, ∀ p, listed.slot z = some p → p.priority ≠ .urgent ∧ p.lt ≠ 6 :=
  ⟨by decide +kernel, fun z _ p hp => by rw [(listed_slot hp).2]; decide⟩

/-- A staged WRITE of two bytes to LT5. -/
def writeBytes : List Byte := [7, 1, 0, 5, 0, 7, 0xE8, 0x03, 2, 0, 0xAA, 0xBB]

/-- The request it reads as. -/
def writeRequest : Request := ⟨7, .write, .lt 5, .normal, 7, 1000, [0xAA, 0xBB], 0⟩

theorem witness_StagedRequestFields :
    stagedRequest? (staged writeBytes State.reset).port = some writeRequest ∧
    (stagedRequest? (staged [0, 5, 0, 63, 1, 7, 0, 0, 32, 32] State.reset).port).isSome = true ∧
    stagedRequest? (staged [0, 5, 1, 8, 1, 7, 0, 0, 32, 32] State.reset).port = none := by decide +kernel

theorem accepts_target : ¬ (staged writeBytes (mapped .active 0 State.reset)).refusesTarget (.lt 5) :=
  fun h => absurd (h (bindAt .active) (by decide +kernel)) (by decide)

theorem witness_SubmitByCheck :
    (staged writeBytes State.reset).atAction .submit [] ∧
    (stagedRequest? (staged [7, 1, 0, 64] State.reset).port = none ∧
      stagedRequest? (staged [7, 2, 1, 7] State.reset).port =
        some ⟨7, .read, .group 7, .normal, 0, 0, [], 0⟩ ∧
      stagedRequest? (staged [7, 2, 0, 63] State.reset).port =
        some ⟨7, .read, .lt 63, .normal, 0, 0, [], 0⟩ ∧
      stagedRequest? (staged writeBytes (mapped .active 0 State.reset)).port = some writeRequest ∧
      (staged writeBytes (mapped .active 0 State.reset)).rq.length < 32 ∧
      32 ≤ (staged writeBytes fullQueues).rq.length) ∧
    ¬ Request.lengthsMatch ⟨7, .read, .lt 63, .normal, 0, 0, [], 0⟩ ∧ writeRequest.lengthsMatch ∧
    ¬ (staged writeBytes (mapped .active 0 State.reset)).refusesTarget writeRequest.target ∧
    ¬ (staged writeBytes (mapped .active 0 State.reset)).holdsTag writeRequest.tag ∧
    (staged writeBytes State.reset).refusesTarget writeRequest.target ∧
    (staged writeBytes (withRq [queuedEntry .probe 0] State.reset)).holdsTag writeRequest.tag := by
  refine ⟨rfl, by decide +kernel, ?_, ⟨by decide, by decide⟩, accepts_target, ?_, ?_,
    .inl ⟨queuedEntry .probe 0, by decide +kernel⟩⟩
  · unfold Request.lengthsMatch; decide
  · rintro (⟨e, he, _⟩ | ⟨c, x, hx, _⟩)
    · cases he
    · simp [staged, handed, mapped, State.putEntry, State.ctx, State.reset] at hx
  · intro b h
    simp [staged, handed, State.entry, State.reset, MapEntry.free] at h

theorem witness_PopsTakeHeads :
    ((handed [.cqPop] State.reset).atAction .cqPop [] ∧ (handed [.nqPop] State.reset).atAction .nqPop [] ∧
      (handed [.cqPop] (State.reset.withRecord record)).atAction .cqPop [] ∧
      (handed [.nqPop] fullQueues).atAction .nqPop []) ∧
    ((handed [.cqPop] State.reset).completion.cq = [] ∧
      (handed [.cqPop] (State.reset.withRecord record)).completion.cq = ⟨record, 0⟩ :: [] ∧
      (handed [.cqPop] (State.reset.withRecord record)).completion.posting = [] ∧
      (handed [.nqPop] State.reset).notices.nq = [] ∧
      (handed [.nqPop] fullQueues).notices.nq = notice :: List.replicate 15 notice) ∧
    (handed [.cqPop] (State.reset.withRecord record)).noneQueued :=
  ⟨by unfold State.atAction; decide +kernel, by decide +kernel, noneQueued_of_nil rfl⟩

/-- An entry that has finished in a full RQ's place, at the head of the posting list. -/
def entryFinished : State :=
  { withRq [{ queuedEntry .probe 500 with finish := some ⟨.of .expired, 500, none⟩ }] State.reset with
    completion := ⟨[.entry 7], List.replicate 31 ⟨record, 0⟩, 1, 0⟩ }

/-- A context that has finished, at the head of the posting list. -/
def contextFinished : State :=
  { State.reset.putCtx 3 (some { context (request .read 0 0 [] 2) false none with
      finish := some ⟨.ok, 9, none⟩ }) with
    completion := ⟨[.context 3], [], 1, 0⟩ }

theorem witness_PostingMakesRecords :
    (TagLaw entryFinished ∧ TagLaw (asked true)) ∧
    ({ queuedEntry .probe 500 with finish := some ⟨.of .expired, 500, none⟩ } ∈ entryFinished.rq ∧
      entryFinished.completion.posting = .entry (queuedEntry .probe 500).request.tag :: [] ∧
      entryFinished.completion.cq.length < 32) ∧
    (contextFinished.ctx 3 = some { context (request .read 0 0 [] 2) false none with
        finish := some ⟨.ok, 9, none⟩ } ∧
      contextFinished.completion.posting = .context 3 :: [] ∧
      contextFinished.completion.cq.length < 32) ∧
    (queuedEntry .probe 0 ∈ (asked true).rq ∧ (queuedEntry .probe 0).finish = none ∧
      32 ≤ fullQueues.completion.cq.length) :=
  ⟨by unfold TagLaw; decide +kernel, by decide +kernel⟩

theorem witness_MapSetChecks :
    let s := commanded 0x01 [63, 3, 0x77, 15, 1] State.reset
    (s.atCommand 0x01 [] ∧ inBusRange 0x77 ∧ ¬ s.bound 3 0x77 ∧
      (mapped .active 0 State.reset).bound 1 0x20) ∧
    ((s.arg 0).toNat = (63 : LtId).val ∧ (s.arg 1).toNat = (3 : SegId).val ∧
      (s.arg 2).toNat = (0x77 : BusAddr).toNat ∧ (s.arg 3).toNat ≤ 15 ∧
      (s.arg 4).toNat = (if true then 1 else 0) ∧ 0x77 ≠ (s.seg 3).config.alertAddress ∧
      (s.entry 63).binding = none) ∧
    (63 < ((commanded 0x01 [64] State.reset).arg 0).toNat ∧
      (0x0C : BusAddr) = ((commanded 0x01 [5, 1, 0x0C] State.reset).seg 1).config.alertAddress ∧
      ((mapped .active 0 State.reset).entry 5).binding ≠ none) := by
  refine ⟨⟨⟨rfl, rfl⟩, ⟨by decide, by decide⟩, ?_, 5, bindAt .active, by decide +kernel⟩, by decide +kernel⟩
  rintro ⟨m, b, hb, _⟩
  simp [commanded, State.entry, State.reset, MapEntry.free] at hb

theorem witness_MapRetireByState :
    let s := commanded 0x02 [5] (surveyed 0 (.due ⟨3, 1⟩) (mapped .active 0 State.reset))
    let u := surveyed 0 .orphaned (mapped .draining 1 State.reset)
    s.atCommand 0x02 [] ∧
    ((s.arg 0).toNat = (5 : LtId).val ∧ (s.entry 5).binding = some (bindAt .active) ∧
      (bindAt .active).state ≠ .draining ∧ (s.entry 5).refCount = 0 ∧ s.notices.nq.length < 16) ∧
    (((commanded 0x02 [5] (mapped .active 25 State.reset)).entry 5).refCount ≠ 0 ∧
      ((commanded 0x02 [5] (mapped .draining 1 State.reset)).entry 5).binding = some (bindAt .draining) ∧
      ((commanded 0x02 [63] State.reset).entry 63).binding = none ∧
      63 < ((commanded 0x02 [64] State.reset).arg 0).toNat) ∧
    ((u.entry 5).binding = some (bindAt .draining) ∧ (bindAt .draining).state = .draining ∧
      (u.entry 5).refCount = 1 ∧ u.notices.nq.length < 16) :=
  ⟨⟨rfl, rfl⟩, by decide +kernel⟩

theorem witness_MapRetireByState_full :
    ∀ d ∈ [254, 255],
      let s := { commanded 0x02 [5] (mapped .active 0 State.reset) with notices := ⟨List.replicate 16 notice, d⟩ }
      s.atCommand 0x02 [] ∧ (s.entry 5).binding = some (bindAt .active) ∧ (s.entry 5).refCount = 0 ∧
        (s.withNotice (.targetRetired 5 1 0x20)).notices = ⟨List.replicate 16 notice, 255⟩ :=
  fun d h => ⟨⟨rfl, rfl⟩, by revert d; decide +kernel⟩

theorem witness_MapReinstateByState :
    let s := commanded 0x03 [5] (surveyed 0 .held (mapped .isolated 0 State.reset))
    let busy := (commanded 0x03 [5] (surveyed 0 .held (mapped .isolated 1 alertState)))
    let idle := commanded 0x03 [5] (surveyed 0 .held (seg1 .idle (mapped .isolated 0 State.reset)))
    (s.atCommand 0x03 [] ∧ busy.atCommand 0x03 [] ∧ idle.atCommand 0x03 []) ∧
    ((idle.seg 1).state = .idle ∧ (idle.sv 2).setup = some ⟨surveyConf 0, .held⟩ ∧
      (surveyConf 0).lt = 5 ∧ (idle.entry 5).binding = some (bindAt .isolated)) ∧
    ((s.arg 0).toNat = (5 : LtId).val ∧ (s.entry 5).binding = some (bindAt .isolated) ∧
      (bindAt .isolated).state = .isolated ∧ (s.seg 1).state ≠ .idle ∧ (s.seg 1).state.code ≠ 2) ∧
    ((busy.seg 1).state = .busy ⟨.alert, none, [.addressRead 0x0C, .read false], .transfer,
        ⟨false, false, false⟩⟩ ∧ (busy.sv 2).setup = some ⟨surveyConf 0, .held⟩ ∧
      (busy.entry 5).binding = some (bindAt .isolated)) ∧
    (((commanded 0x03 [63] State.reset).entry 63).binding = none ∧
      63 < ((commanded 0x03 [64] State.reset).arg 0).toNat) ∧
    ∀ n c, ((mapped .isolated 0 State.reset).sv n).setup = some ⟨c, .held⟩ → c.lt ≠ 5 := by
  refine ⟨⟨⟨rfl, rfl⟩, ⟨rfl, rfl⟩, rfl, rfl⟩, by decide +kernel, by decide +kernel, by decide +kernel,
    by decide +kernel, fun n c h => ?_⟩
  have e : ∀ n, ((mapped .isolated 0 State.reset).sv n).setup = none := by decide +kernel
  rw [e n] at h
  cases h

theorem witness_CopiesOfTables :
    ((commanded 0x04 [63] State.reset).atCommand 0x04 [] ∧ (commanded 0x06 [7] State.reset).atCommand 0x06 [] ∧
      (commanded 0x0F [31] State.reset).atCommand 0x0F []) ∧
    (((commanded 0x04 [63] State.reset).arg 0).toNat = (63 : LtId).val ∧
      ((commanded 0x06 [7] State.reset).arg 0).toNat = (7 : GroupId).val ∧
      ((commanded 0x0F [31] State.reset).arg 0).toNat = (31 : SvId).val ∧
      63 < ((commanded 0x04 [64] State.reset).arg 0).toNat ∧
      7 < ((commanded 0x06 [8] State.reset).arg 0).toNat ∧
      31 < ((commanded 0x0F [32] State.reset).arg 0).toNat) ∧
    (((mapped .active 0 State.reset).entry 5).binding = some (bindAt .active) ∧
      (look (put State.reset.groups 7 ⟨3, .quorum 2⟩) 7).policy = .quorum 2 ∧
      (surveyReading.sv 2).setup = some ⟨surveyConf 0, .reading ⟨100, 0⟩ .waiting⟩) :=
  ⟨⟨⟨rfl, rfl⟩, ⟨rfl, rfl⟩, rfl, rfl⟩, by decide +kernel⟩

theorem witness_GroupSetChecks :
    let s := commanded 0x05 [7, 0xFF, 0xFF, 0, 0, 0, 0, 0, 0, 2, 16] State.reset
    let u := commanded 0x05 [7, 0xFF, 0xFF, 0, 0, 0, 0, 0, 1, 0, 0] State.reset
    let size (v : State) := ((List.finRange 64).filter fun n => (v.argMask 1).getLsbD n.val).length
    (s.atCommand 0x05 [] ∧ u.atCommand 0x05 []) ∧
    ((s.arg 0).toNat = (7 : GroupId).val ∧ size s ≤ 16 ∧ (s.arg 9).toNat = 2 ∧
      1 ≤ (s.arg 10).toNat ∧ (s.arg 10).toNat ≤ size s ∧ 16 < size u ∧ (u.arg 9).toNat = 0) :=
  ⟨⟨⟨rfl, rfl⟩, rfl, rfl⟩, by decide +kernel⟩

theorem witness_SegmentConfigChecks :
    let s := commanded 0x07 [1, 2, 255, 255, 255, 0, 8, 0x77, 1] (mapped .active 0 State.reset)
    (s.atCommand 0x07 [] ∧ inBusRange 0x77 ∧ s.bound 1 0x20 ∧ ¬ State.reset.bound 1 0x77) ∧
    ((s.arg 0).toNat = (1 : SegId).val ∧ (s.arg 1).toNat = 2 ∧ s.arg 2 ≠ 0 ∧
      s.arg 3 ≠ 0 ∧ s.arg 4 ≠ 0 ∧ s.arg 6 ≠ 0 ∧ (s.arg 6).toNat ≤ 8 ∧
      (s.arg 7).toNat = (0x77 : BusAddr).toNat ∧ (s.arg 8).toNat = (if true then 1 else 0) ∧
      (s.seg 1).state = .disabled ∧ 3 < ((commanded 0x07 [4] State.reset).arg 0).toNat ∧
      (recovering.seg 1).state ≠ .disabled) := by
  refine ⟨⟨⟨rfl, rfl⟩, ⟨by decide, by decide⟩, ⟨5, bindAt .active, by decide +kernel⟩, ?_⟩, by decide +kernel⟩
  rintro ⟨m, b, hb, _⟩
  simp [State.entry, State.reset, MapEntry.free] at hb

theorem writeState_carries (phase : Phase) (cancelled : Bool) :
    (writeState phase cancelled).carries 9 (opSlot (.active cancelled) .write) 3
      (context (request .write 1 0 [1, 2, 3] 0) cancelled none) :=
  carries_running (request .write 1 0 [1, 2, 3] 0) (.active cancelled) cancelled none
    (onBus .write [.addressWrite 0x20, .write 1, .write 2, .write 3] phase cancelled) rfl

theorem witness_SegmentEnableStarts :
    let s := commanded 0x08 [3] (surveyed 0 .stopped (mapped .active 0 State.reset))
    let stuck := commanded 0x08 [1] (State.reset.putSeg 1 { Segment.reset with dataLine := ⟨false, 350⟩ })
    let g := { s.seg 3 with state := .idle, consecHost := 0, busFree := false, alert := ⟨none, 0, 0, false⟩ }
    (s.atCommand 0x08 [] ∧ s.noneQueued ∧ (s.seg 3).linesFree ∧ g.noWork ∧ ¬ (stuck.seg 1).linesFree) ∧
    ((s.arg 0).toNat = (3 : SegId).val ∧ (s.seg 3).state = .disabled ∧
      (∀ n, s.svSeg n = some 3 → s.svRun n ≠ some .held) ∧ (stuck.seg 1).state = .disabled ∧
      3 < ((commanded 0x08 [4] State.reset).arg 0).toNat ∧ (recovering.seg 1).state ≠ .disabled ∧
      (surveyed 0 .held (mapped .active 0 State.reset)).svSeg 2 = some 1 ∧
      (surveyed 0 .held (mapped .active 0 State.reset)).activeOn 1 5 = true ∧
      (surveyed 0 .held (mapped .isolated 0 State.reset)).activeOn 1 5 = false) :=
  ⟨⟨⟨rfl, rfl⟩, noneQueued_of_nil rfl, linesFree_of_high rfl rfl, ⟨rfl, rfl, by decide +kernel⟩,
    by unfold Segment.linesFree; decide +kernel⟩, by decide +kernel⟩

theorem witness_SegmentDisableByState :
    let s := commanded 0x09 [1] (surveyed 0 (.waiting ⟨3, 1⟩) (mapped .active 0 (seg1 .idle State.reset)))
    let u := commanded 0x09 [1] listed
    (s.atCommand 0x09 [] ∧ s.noneQueued ∧ (∀ c, (s.seg 1).state ≠ .busy c)) ∧
    ((s.arg 0).toNat = (1 : SegId).val ∧ (s.seg 1).state ≠ .disabled ∧ (s.seg 1).pendingList = [] ∧
      ((readState 0).seg 1).state = .busy ⟨.host 9 .read, some 5,
        [.addressRead 0x20, .read true, .read false], .transfer, ⟨false, false, false⟩⟩ ∧
      Phase.transfer ≠ .waitFree ∧ (State.reset.seg 1).state = .disabled ∧
      3 < ((commanded 0x09 [4] State.reset).arg 0).toNat) ∧
    (u.carries 9 (opSlot .pending .probe) 3 (context (request .probe 0 0 [] 0) false none) ∧
      u.postingOpen ∧ u.noneQueued ∧ u.atCommand 0x09 [] ∧ (∀ c, (u.seg 1).state ≠ .busy c) ∧
      ∀ m, (opSlot .pending .probe).state ≠ .active m) ∧
    ((u.seg 1).pendingList = [9] ∧ (u.seg 1).state ≠ .disabled ∧
      (u.entry 5).binding = some (bindAt .active) ∧
      ∀ n, u.svSeg n = some 1 → u.svRun n = some .stopped) :=
  ⟨⟨⟨rfl, rfl⟩, noneQueued_of_nil rfl, idle_notBusy (by decide +kernel)⟩, by decide +kernel,
    ⟨carries_running (request .probe 0 0 [] 0) .pending false none (.recovering ⟨0, .check, none⟩) rfl,
      ⟨rfl, by decide +kernel⟩, noneQueued_of_nil rfl, ⟨rfl, rfl⟩, nofun, nofun⟩, by decide +kernel⟩

/-- SEGMENT_DISABLE at hand with the work of SEG1 in WAIT_FREE. -/
def waiting (w : Work) (lt : Option LtId) (script : List BusItem) (s : State) : State :=
  commanded 0x09 [1] (seg1 (.busy ⟨w, lt, script, .waitFree, ⟨false, false, false⟩⟩) s)

theorem witness_SegmentDisableByState_waits :
    let q := waiting .alert none [.addressRead 0x0C, .read false] State.reset
    let v := waiting (.survey 2) (some 5) [.addressRead 0x20, .read false] surveyReading
    let h := waiting (.host 9 .write) (some 5) [.addressWrite 0x20, .write 1, .write 2, .write 3]
      (writeState .waitFree false)
    (∀ s ∈ [q, v, h], s.atCommand 0x09 [] ∧ s.noneQueued ∧ (s.seg 1).pendingList = []) ∧
    ((q.arg 0).toNat = (1 : SegId).val ∧ (v.sv 2).setup = some ⟨surveyConf 0, .reading ⟨100, 0⟩ .waiting⟩ ∧
      (v.entry 5).binding = some (bindAt .active) ∧ (h.entry 5).binding = some (bindAt .active)) ∧
    h.carries 9 (opSlot (.active false) .write) 3 (context (request .write 1 0 [1, 2, 3] 0) false none) ∧
    h.postingOpen :=
  ⟨by
    intro s h
    simp only [List.mem_cons, List.not_mem_nil, or_false] at h
    rcases h with rfl | rfl | rfl <;> exact ⟨⟨rfl, rfl⟩, noneQueued_of_nil rfl, rfl⟩, by decide +kernel,
    writeState_carries .waitFree false, rfl, by decide +kernel⟩

theorem witness_SegmentClearAndAlertResume :
    let s := commanded 0x0A [1] (seg1 (.faulted ⟨16, .check, some .data⟩) State.reset)
    let u := commanded 0x0B [1] (alerting true)
    (s.atCommand 0x0A [] ∧ u.atCommand 0x0B [] ∧ (u.seg 1).linesFree ∧ u.noneQueued ∧
      ∀ r, (State.reset.seg 1).state ≠ .faulted r) ∧
    ((s.arg 0).toNat = (1 : SegId).val ∧ (s.seg 1).state = .faulted ⟨16, .check, some .data⟩ ∧
      (u.arg 0).toNat = (1 : SegId).val ∧ (u.seg 1).state = .idle ∧
      (u.seg 1).config.alertEnable = true ∧ (u.seg 1).alertLow = true ∧ (u.seg 1).busFree = false ∧
      (State.reset.seg 1).state ≠ .idle ∧ 3 < ((commanded 0x0A [4] State.reset).arg 0).toNat) :=
  ⟨⟨⟨rfl, rfl⟩, ⟨rfl, rfl⟩, linesFree_of_high rfl rfl, noneQueued_of_nil rfl, nofun⟩, by decide +kernel⟩

/-- The arguments of a SURVEY_SET at the top of its ranges, MODE WINDOW with LOW 1 and HIGH 2. -/
def surveyArgs (n : Byte) : List Byte :=
  [n, 5, 1, 0xAA, 8, 0x64, 0, 0, 0, 2] ++ List.replicate 8 0 ++ [1, 0, 0, 0, 0, 0, 0, 0] ++
    [2, 0, 0, 0, 0, 0, 0, 0] ++ [15, 1]

theorem witness_SurveySetChecks :
    let s := commanded 0x0C (surveyArgs 31) (mapped .active 0 State.reset)
    (s.atCommand 0x0C [] ∧ ¬ s.started 31 ∧ surveyReading.started 2) ∧
    ((s.arg 0).toNat = (31 : SvId).val ∧ (s.arg 1).toNat = (5 : LtId).val ∧
      (s.arg 2).toNat = (if true then 1 else 0) ∧ (s.arg 35).toNat = (if true then 1 else 0) ∧
      s.arg 4 ≠ 0 ∧ (s.arg 4).toNat ≤ 8 ∧ s.argWord 5 ≠ 0 ∧ s.arg 34 ≠ 0 ∧ (s.arg 34).toNat ≤ 15 ∧
      (s.arg 9).toNat = 2 ∧ 1 = s.argMask 18 ∧ 2 = s.argMask 26 ∧ (s.entry 5).binding ≠ none) ∧
    ((State.reset.entry 5).binding = none ∧
      31 < ((commanded 0x0C (surveyArgs 32) State.reset).arg 0).toNat) := by
  refine ⟨⟨⟨rfl, rfl⟩, ?_, .reading ⟨100, 0⟩ .waiting, by decide +kernel⟩, by decide +kernel⟩
  rintro ⟨r, hr, _⟩
  have e : (commanded 0x0C (surveyArgs 31) (mapped .active 0 State.reset)).svRun 31 = none := by
    decide +kernel
  rw [e] at hr
  cases hr

/-- SEG1 IDLE with the lists given. -/
def offered (pending : List SlotId) (due : List SvId) (s : State) : State :=
  s.putSeg 1 { Segment.reset with state := .idle, pendingList := pending, dueList := due }

theorem witness_SurveyStartByTarget :
    let s := commanded 0x0D [2] (surveyed 5 .stopped (seg1 .idle (mapped .active 0 State.reset)))
    s.atCommand 0x0D [] ∧
    ((s.arg 0).toNat = (2 : SvId).val ∧ (s.sv 2).setup = some ⟨surveyConf 5, .stopped⟩ ∧
      (s.entry 5).binding = some (bindAt .active) ∧ (s.seg 1).state = .idle ∧
      (surveyConf 5).startOffset ≠ 0) ∧
    (((surveyed 5 .stopped (mapped .active 0 State.reset)).seg 1).state = .disabled ∧
      (surveyed 5 .stopped (mapped .isolated 0 State.reset)).svRun 2 = some .stopped ∧
      (bindAt .isolated).state ≠ .active ∧ surveyReading.svRun 2 ≠ some .stopped ∧
      31 < ((commanded 0x0D [32] State.reset).arg 0).toNat) :=
  ⟨⟨rfl, rfl⟩, by decide +kernel⟩

theorem witness_SurveyStartByTarget_now :
    let s := commanded 0x0D [2] (atTime 9 (surveyed 0 .stopped (offered [] [1, 3] (mapped .active 0 State.reset))))
    let u := (s.putSv 1 ⟨some ⟨surveyConf 0, .due ⟨9, 3⟩⟩, 0, 0, .unknown⟩).putSv 3
      ⟨some ⟨surveyConf 0, .due ⟨9, 3⟩⟩, 0, 0, .unknown⟩
    u.atCommand 0x0D [] ∧
    ((u.arg 0).toNat = (2 : SvId).val ∧ (u.sv 2).setup = some ⟨surveyConf 0, .stopped⟩ ∧
      (u.entry 5).binding = some (bindAt .active) ∧ (u.seg 1).state = .idle ∧
      (surveyConf 0).startOffset = 0 ∧ (u.seg 1).dueList = [1] ++ [3] ∧ 2 ∉ (u.seg 1).dueList) :=
  ⟨⟨rfl, rfl⟩, by decide +kernel⟩

theorem witness_SurveyStopByState :
    (commanded 0x0E [2] surveyReading).atCommand 0x0E [] ∧
    ((∀ r ∈ [SurveyRun.stopped, .waiting ⟨3, 1⟩, .due ⟨3, 1⟩, .reading ⟨3, 1⟩ .waiting,
        .reading ⟨3, 1⟩ .orphaned, .held, .orphaned],
      ((commanded 0x0E [2] (surveyed 5 r (mapped .active 0 State.reset))).sv 2).setup =
        some ⟨surveyConf 5, r⟩) ∧
    ((commanded 0x0E [2] surveyReading).arg 0).toNat = (2 : SvId).val ∧
    ((mapped .active 0 State.reset).entry (surveyConf 5).lt).binding = some (bindAt .active) ∧
    (State.reset.sv 2).setup = none ∧ 31 < ((commanded 0x0E [32] State.reset).arg 0).toNat) :=
  ⟨⟨rfl, rfl⟩, by decide +kernel⟩

theorem witness_CancelByHolder :
    let s := commanded 0x10 [7] (readState 500)
    let u := commanded 0x10 [7] listed
    let cur : Current := ⟨.host 9 .read, some 5, [.addressRead 0x20, .read true, .read false], .transfer,
      ⟨false, false, false⟩⟩
    (s.atCommand 0x10 [] ∧ TagLaw s ∧ s.carries 9 (opSlot (.active false) .read) 3
        (context (request .read 2 500 [] 2) false (some false)) ∧
      (∀ j p, s.slot j = some p → p.context = 3 → j = 9)) ∧
    (s.ctx 3 = some (context (request .read 2 500 [] 2) false (some false)) ∧ s.arg 0 = 7 ∧
      (s.seg 1).state = .busy cur ∧ cur.phase ≠ .waitFree ∧
      ∀ i : SegId, i ≠ 1 → (s.seg i).state = .disabled) ∧
    (u.atCommand 0x10 [] ∧ TagLaw u ∧ u.carries 9 (opSlot .pending .probe) 3
        (context (request .probe 0 0 [] 0) false none) ∧ u.postingOpen ∧ u.noneQueued ∧
      (∀ j p, u.slot j = some p → p.context = 3 → j = 9) ∧
      ∀ m, (opSlot .pending .probe).state ≠ .active m) ∧
    (u.ctx 3 = some (context (request .probe 0 0 [] 0) false none) ∧
      (u.entry 5).binding = some (bindAt .active) ∧
      ∀ i : SegId, (u.seg i).state = .disabled ∨ (u.seg i).state = .recovering ⟨0, .check, none⟩) ∧
    (∃ e ∈ (commanded 0x10 [7] (withRq [queuedEntry .probe 0] State.reset)).rq,
      e.request.tag = (commanded 0x10 [7] (withRq [queuedEntry .probe 0] State.reset)).arg 0 ∧
        e.finish = none) ∧
    ((∀ e ∈ (commanded 0x10 [8] (readState 500)).rq,
        e.request.tag ≠ (commanded 0x10 [8] (readState 500)).arg 0) ∧
      ∀ c : CtxId, ((commanded 0x10 [8] (readState 500)).ctx c).map (·.request.tag) ≠
        some ((commanded 0x10 [8] (readState 500)).arg 0)) :=
  ⟨⟨⟨rfl, rfl⟩, by unfold TagLaw; decide +kernel,
      carries_running (request .read 2 500 [] 2) (.active false) false (some false)
        (onBus .read [.addressRead 0x20, .read true, .read false] .transfer false) rfl,
      fun j p hp _ => only_slot9 rfl j p hp⟩, by decide +kernel,
    ⟨⟨rfl, rfl⟩, by unfold TagLaw; decide +kernel,
      carries_running (request .probe 0 0 [] 0) .pending false none (.recovering ⟨0, .check, none⟩) rfl,
      ⟨rfl, by decide +kernel⟩, noneQueued_of_nil rfl, fun j p hp _ => only_slot9 rfl j p hp, nofun⟩,
    by decide +kernel, ⟨queuedEntry .probe 0, by decide +kernel⟩, by decide +kernel⟩

theorem witness_CancelByHolder_waits :
    let s := commanded 0x10 [7] (writeState .waitFree false)
    let x := context (request .write 1 0 [1, 2, 3] 0) false none
    (s.atCommand 0x10 [] ∧ TagLaw s ∧ s.carries 9 (opSlot (.active false) .write) 3 x ∧
      (∀ j p, s.slot j = some p → p.context = 3 → j = 9) ∧ (s.seg 1).noWork ∧ (s.seg 1).linesFree ∧
      s.postingOpen ∧ s.noneQueued) ∧
    (s.ctx 3 = some x ∧ x.request.tag = s.arg 0 ∧ x.finish = none ∧ x.cancelRequested = false ∧
      (s.seg 1).state = onBus .write [.addressWrite 0x20, .write 1, .write 2, .write 3] .waitFree false ∧
      (s.entry 5).binding = some (bindAt .active) ∧ ∀ i : SegId, i ≠ 1 → (s.seg i).state = .disabled) :=
  ⟨⟨⟨rfl, rfl⟩, by unfold TagLaw; decide +kernel, writeState_carries .waitFree false,
    fun j p hp _ => only_slot9 rfl j p hp, ⟨rfl, rfl, by decide +kernel⟩, linesFree_of_high rfl rfl,
    ⟨rfl, by decide +kernel⟩, noneQueued_of_nil rfl⟩, by decide +kernel⟩

theorem witness_UnknownCodesAnswered :
    (commanded 0x00 [] State.reset).atCommand 0x00 [] ∧ (commanded 0x11 [] State.reset).atCommand 0x11 [] ∧
      0x10 < (0x11 : Byte).toNat := ⟨⟨rfl, rfl⟩, ⟨rfl, rfl⟩, by decide⟩

theorem witness_TimebaseCounts :
    State.reset.port.resetN = true ∧ (after .deviceReset State.reset).port.resetN = false ∧
    State.reset.timebase.subTicks < 10 ∧
    10 ≤ { State.reset with timebase := ⟨65535, 9, 10⟩ }.timebase.subTicks := by decide +kernel

theorem witness_BackoffExpires :
    let s (now : Word16) := atTime now (running (request .probe 1 0 [] 0) (.backoff 65530 (65530 + 10)) false
      none (.recovering ⟨0, .check, none⟩))
    (∀ now, (s now).slot 9 = some (opSlot (.backoff 65530 (65530 + 10)) .probe)) ∧
    (((s 3).timebase.tick - 65530).toNat < (10 : Word16).toNat ∧
      (10 : Word16).toNat ≤ ((s 4).timebase.tick - 65530).toNat ∧ ((s 4).seg 1).state ≠ .idle) :=
  ⟨fun now => by simp [atTime, running, State.slot, State.putSlot, State.putCtx, request], by decide +kernel⟩

theorem witness_ArbiterChooses :
    let s := offered [9] [] (running (request .probe 0 0 [] 0) .pending false none .idle)
    let d := offered [] [2] (surveyed 0 (.due ⟨3, 1⟩) (mapped .active 0 State.reset))
    let called := (alerting false).putSeg 1 { (alerting false).seg 1 with alert := ⟨none, 0, 0, false⟩ }
    let stuck := State.reset.putSeg 1 { Segment.reset with state := .idle, clockLine := ⟨false, 350⟩ }
    ((s.seg 1).linesFree ∧ s.mayGo [] 9 ∧ ¬ (stuck.seg 1).linesFree ∧ s.noneQueued ∧
      (∀ m1 j m2, ([] : List SlotId) = m1 ++ j :: m2 → ¬ s.mayGo m1 j) ∧
      ∀ l1 k l2, (d.seg 1).pendingList = l1 ++ k :: l2 → ¬ d.mayGo l1 k) ∧
    ((s.seg 1).state = .idle ∧ (s.seg 1).pendingList = [] ++ 9 :: [] ∧ (s.seg 1).dueList = [] ∧
      s.slot 9 = some (opSlot .pending .probe) ∧
      s.ctx 3 = some (context (request .probe 0 0 [] 0) false none)) ∧
    ((d.seg 1).state = .idle ∧ (d.seg 1).dueList = 2 :: [] ∧
      (d.sv 2).setup = some ⟨surveyConf 0, .due ⟨3, 1⟩⟩ ∧
      (d.entry 5).binding = some (bindAt .active) ∧ (bindAt .active).segment = 1 ∧
      1 ≤ (surveyConf 0).length ∧ (surveyConf 0).selector = none) ∧
    ((called.seg 1).state = .idle ∧ (called.seg 1).config.alertEnable = true ∧
      (called.seg 1).alert.suspended = false ∧ (called.seg 1).alertLow = true ∧
      (stuck.seg 1).state = .idle ∧ (State.reset.seg 1).state ≠ .idle) := by
  refine ⟨⟨linesFree_of_high rfl rfl, ⟨opSlot .pending .probe, by decide +kernel, rfl, nofun⟩,
    by unfold Segment.linesFree; decide +kernel, noneQueued_of_nil rfl, fun m1 j m2 h => ?_,
    fun l1 k l2 h => ?_⟩, by decide +kernel⟩
  · cases m1 <;> cases h
  · have e : (offered [] [2] (surveyed 0 (.due ⟨3, 1⟩) (mapped .active 0 State.reset))).seg 1 =
        { Segment.reset with state := .idle, dueList := [2] } := by decide +kernel
    rw [e] at h
    cases l1 <;> cases h

theorem witness_DeadlinesPass :
    let s := atTime 500 (withRq [queuedEntry .probe 500] State.reset)
    let u := atTime 500 (readState 500)
    let v := atTime 500 ((running (request .probe 0 500 [] 0) .pending false (some false)
      (.recovering ⟨0, .check, none⟩)).putSeg 1
        { Segment.reset with state := .recovering ⟨0, .check, none⟩, pendingList := [9] })
    (TagLaw s ∧ (∀ k o, u.slot k = some o → o.context = 3 → ∃ m, o.state = .active m)) ∧
    (queuedEntry .probe 500 ∈ s.rq ∧ (queuedEntry .probe 500).finish = none ∧
      (500 : Word16).toNat ≤ (s.timebase.time - 0).toNat ∧
      u.ctx 3 = some (context (request .read 2 500 [] 2) false (some false))) ∧
    (v.carries 9 (opSlot .pending .probe) 3 (context (request .probe 0 500 [] 0) false (some false)) ∧
      (∀ j p, v.slot j = some p → p.context = 3 → j = 9) ∧ v.postingOpen ∧ v.noneQueued ∧
      ∀ m, (opSlot .pending .probe).state ≠ .active m) ∧
    (v.ctx 3 = some (context (request .probe 0 500 [] 0) false (some false)) ∧
      (v.entry 5).binding = some (bindAt .active) ∧ (v.seg 1).state ≠ .idle) := by
  refine ⟨⟨by unfold TagLaw; decide +kernel, fun k o hk _ => ?_⟩, by decide +kernel,
    ⟨carries_running (request .probe 0 500 [] 0) .pending false (some false) (.recovering ⟨0, .check, none⟩) rfl,
      fun j p hp _ => only_slot9 rfl j p hp, ⟨rfl, by decide +kernel⟩, noneQueued_of_nil rfl, nofun⟩,
    by decide +kernel⟩
  have e : (atTime 500 (readState 500)).slot k = some (opSlot (.active false) .read) := by
    rw [only_slot9 rfl k o hk]; decide +kernel
  rw [hk] at e
  cases e
  exact ⟨_, rfl⟩

theorem witness_SurveyEntryFallsDue :
    let s (now : Word16) := atTime now (surveyed 0 (.waiting ⟨0 + 100, 0⟩) (mapped .active 0 State.reset))
    (∀ now, ((s now).sv 2).setup = some ⟨surveyConf 0, .waiting ⟨0 + 100, 0⟩⟩) ∧
    (((s 100).entry 5).binding = some (bindAt .active) ∧
      ((s 99).timebase.time - 0).toNat < (100 : Word16).toNat ∧
      (100 : Word16).toNat ≤ ((s 100).timebase.time - 0).toNat ∧ ((s 100).seg 1).state ≠ .idle ∧
      2 ∉ ((s 100).seg 1).dueList) :=
  ⟨fun now => by simp [atTime, surveyed, State.sv, State.putSv], by decide +kernel⟩

theorem witness_WaitForTheBus :
    let s := writeState .waitFree false
    let o := opSlot (.active false) .write
    let x := context (request .write 1 0 [1, 2, 3] 0) false none
    (s.carries 9 o 3 x ∧ s.noneQueued ∧ (s.seg 1).noWork ∧ (s.seg 1).linesFree) ∧
    ((s.seg 1).state = .busy ⟨.host 9 o.kind, some o.lt, [.addressWrite 0x20, .write 1, .write 2, .write 3],
      .waitFree, ⟨false, false, false⟩⟩ ∧ o.segment = 1 ∧ x.cancelRequested = false ∧
      x.deadlinePassed ≠ some true ∧ o.attempts ≤ x.request.retryBudget ∧ (s.seg 1).config.retryGap ≠ 0 ∧
      (s.entry o.lt).binding = some (bindAt .active) ∧ ((seg1 .idle State.reset).seg 1).state = .idle) :=
  ⟨⟨writeState_carries _ _, noneQueued_of_nil rfl, ⟨rfl, rfl, by decide +kernel⟩, linesFree_of_high rfl rfl⟩,
    by decide +kernel⟩

theorem witness_StretchLimitEnds :
    (((readState 0).seg 1).state = .busy ⟨.host 9 .read, some 5,
        [.addressRead 0x20, .read true, .read false], .transfer, ⟨false, false, false⟩⟩ ∧
      verdict [.addressRead 0x20, .read true, .read false] [.acked, .read 0x11 true] =
        .running ⟨0, true, [0x11]⟩ [.read false] .read ∧
      verdict [.addressRead 0x20, .read true, .read false] [.nacked] = .ended ⟨.addressNack, 0, false, []⟩ ∧
      verdict [.addressRead 0x20, .read true, .read false] [.lost] =
        .ended ⟨.arbitrationLost, 0, false, []⟩) ∧
    ((alertState.seg 1).state = .busy ⟨.alert, none, [.addressRead 0x0C, .read false], .transfer,
        ⟨false, false, false⟩⟩ ∧
      verdict [.addressRead 0x0C, .read false] [.acked] =
        .running ⟨0, true, []⟩ [.read false] .readAddress ∧ (alertState.seg 1).alert.nackCount < 2) ∧
    (verdict [.addressRead 0x20, .read true, .read false] [.acked, .read 0x11 false] =
        .cut ⟨0, true, [0x11]⟩ ∧ (⟨true, false, false⟩ : StopRequest) ≠ ⟨false, false, false⟩ ∧
      ∀ k ∈ [1, 2], k ≤ ([.acked, .read 0x11 false] : List BusByte).length ∧
        ([.acked, .read 0x11 false] : List BusByte).length ≤ k + 1) ∧
    alertState.noneQueued :=
  ⟨by decide +kernel, by decide +kernel, by decide +kernel, noneQueued_of_nil rfl⟩

theorem witness_CancelledAttemptStops :
    let s := writeState .transfer true
    let o := opSlot (.active true) .write
    let x := context (request .write 1 0 [1, 2, 3] 0) true none
    let u := running (request .read 2 0 [] 2) (.active true) true none
      (onBus .read [.addressRead 0x20, .read true, .read false] .transfer true)
    let p := opSlot (.active true) .read
    let y := context (request .read 2 0 [] 2) true none
    (s.carries 9 o 3 x ∧ s.postingOpen ∧ s.noneQueued ∧ (s.seg 1).noWork) ∧
    ((s.seg 1).state = .busy ⟨.host 9 o.kind, some o.lt,
      .addressWrite 0x20 :: x.request.writeData.map .write, .transfer, ⟨true, false, false⟩⟩ ∧
      o.segment = 1 ∧ x.cancelRequested = true ∧ x.result = none ∧
      (∀ j ∈ [0, 2], j < x.request.writeData.length) ∧ (s.entry o.lt).binding = some (bindAt .active)) ∧
    (u.carries 9 p 3 y ∧ u.postingOpen ∧ u.noneQueued ∧ (u.seg 1).noWork) ∧
    ((u.seg 1).state = .busy ⟨.host 9 p.kind, some p.lt,
      .addressRead 0x20 :: (List.replicate 1 (.read true) ++ [.read false]), .transfer,
        ⟨true, false, false⟩⟩ ∧
      p.segment = 1 ∧ y.cancelRequested = true ∧ y.result = none ∧ ([] : List Byte).length < 1 ∧
      (u.entry p.lt).binding = some (bindAt .active)) :=
  ⟨⟨writeState_carries _ _, ⟨rfl, by decide +kernel⟩, noneQueued_of_nil rfl, ⟨rfl, rfl, by decide +kernel⟩⟩,
    by decide +kernel,
    ⟨carries_running (request .read 2 0 [] 2) (.active true) true none
      (onBus .read [.addressRead 0x20, .read true, .read false] .transfer true) rfl,
      ⟨rfl, by decide +kernel⟩, noneQueued_of_nil rfl, ⟨rfl, rfl, by decide +kernel⟩⟩, by decide +kernel⟩

/-- The WRITE of three bytes on the bus, with a stop request, for an LT that no failure isolates. -/
def stopping (stop : StopRequest) (phase : Phase) : State :=
  (running (request .write 1 0 [1, 2, 3] 0) (.active stop.cancel) stop.cancel none
    (.busy ⟨.host 9 .write, some 5, [.addressWrite 0x20, .write 1, .write 2, .write 3], phase,
      stop⟩)).putEntry 5 ⟨some ⟨.active, 1, 0x20, 0, true⟩, 0, 1⟩

theorem witness_CancelledAttemptStops_work (stop : StopRequest) :
    let s := stopping stop .transfer
    let script : List BusItem := [.addressWrite 0x20, .write 1, .write 2, .write 3]
    let cur : Current := ⟨.host 9 .write, some 5, script, .transfer, stop⟩
    let o := opSlot (.active stop.cancel) .write
    let x := context (request .write 1 0 [1, 2, 3] 0) stop.cancel none
    (s.carries 9 o 3 x ∧ (s.seg 1).state = .busy cur ∧ s.postingOpen ∧ s.noneQueued ∧ (s.seg 1).noWork) ∧
    (o.segment = 1 ∧ x.cancelRequested = stop.cancel ∧
      (s.entry o.lt).binding = some ⟨.active, 1, 0x20, 0, true⟩) ∧
    (stop ≠ ⟨false, false, false⟩ → cur.stopsAt ⟨[.acked, .acked], 1⟩ ⟨1, true, []⟩) ∧
    (cur.endsOwn ⟨[.acked, .lost], 1⟩ ⟨.arbitrationLost, 0, true, []⟩ ∧
      cur.endsOwn ⟨[.nacked], 0⟩ ⟨.addressNack, 0, false, []⟩ ∧
      cur.endsOwn ⟨[.acked, .acked, .acked, .acked], 4⟩ ⟨.done, 3, true, []⟩ ∧
      { cur with phase := .stopping ⟨.stretchTimeout, 1, true, []⟩ }.endsOwn ⟨[], 0⟩
        ⟨.stretchTimeout, 1, true, []⟩) ∧
    o.mayRetry x ⟨.arbitrationLost, 0, true, []⟩ ∧ o.mayRetry x ⟨.addressNack, 0, false, []⟩ ∧
    ¬ o.mayRetry x ⟨.done, 3, true, []⟩ :=
  ⟨⟨carries_running (request .write 1 0 [1, 2, 3] 0) (.active stop.cancel) stop.cancel none
      (.busy ⟨.host 9 .write, some 5, [.addressWrite 0x20, .write 1, .write 2, .write 3], .transfer, stop⟩) rfl,
      rfl, ⟨rfl, Nat.zero_lt_succ 31⟩, noneQueued_of_nil rfl, rfl, rfl, fun h => Bool.false_ne_true h.1⟩,
    ⟨rfl, rfl, rfl⟩,
    fun h => ⟨rfl, h, by decide, by decide, by decide, .inl ⟨[.write 2, .write 3], rfl⟩⟩,
    ⟨.inl ⟨rfl, rfl, .inr ⟨by decide, by decide⟩⟩, .inl ⟨rfl, rfl, .inr ⟨by decide, by decide⟩⟩,
      .inl ⟨rfl, rfl, .inr ⟨by decide, by decide⟩⟩, .inr ⟨rfl, rfl⟩⟩,
    ⟨.inr (.inl rfl), Nat.le_refl 1, nofun⟩, ⟨.inl rfl, Nat.le_refl 1, nofun⟩, fun h => by
      rcases h.1 with h | h | h <;> cases h⟩

theorem witness_CancelledAttemptStops_engines :
    let survey := seg1 (.busy ⟨.survey 2, some 5, [.addressRead 0x20, .read true, .read false], .transfer,
      ⟨false, true, false⟩⟩) surveyReading
    let query := seg1 (.busy ⟨.alert, none, [.addressRead 0x0C, .read true, .read false], .transfer,
      ⟨false, true, false⟩⟩) alertState
    (survey.noneQueued ∧ (survey.seg 1).noWork ∧ query.noneQueued ∧ (query.seg 1).noWork) ∧
    ((survey.entry 5).binding = some (bindAt .active) ∧
      (survey.sv 2).setup = some ⟨surveyConf 0, .reading ⟨100, 0⟩ .waiting⟩) ∧
    Current.stopsAt ⟨.survey 2, some 5, [.addressRead 0x20, .read true, .read false], .transfer,
      ⟨false, true, false⟩⟩ ⟨[.acked, .read 7 false], 1⟩ ⟨0, true, [7]⟩ :=
  ⟨⟨noneQueued_of_nil rfl, ⟨rfl, rfl, by decide +kernel⟩, noneQueued_of_nil rfl, rfl, rfl, by decide +kernel⟩,
    by decide +kernel, rfl, by decide, by decide, by decide, by decide, .inr (by decide +kernel)⟩

theorem readState_carries : (readState 0).carries 9 (opSlot (.active false) .read) 3
    (context (request .read 2 0 [] 2) false none) :=
  carries_running (request .read 2 0 [] 2) (.active false) false none
    (onBus .read [.addressRead 0x20, .read true, .read false] .transfer false) rfl

theorem witness_ReadRequestCompletes :
    let s := readState 0
    let d := (readState 0).putEntry 5 ⟨some (bindAt .draining), 0, 1⟩
    let o := opSlot (.active false) .read
    let data : List Byte := [0xAB, 0xCD]
    (s.carries 9 o 3 (context (request .read 2 0 [] 2) false none) ∧ s.postingOpen ∧ s.noneQueued ∧
      (s.seg 1).noWork) ∧
    (d.carries 9 o 3 (context (request .read 2 0 [] 2) false none) ∧ d.postingOpen ∧ d.noneQueued ∧
      (d.seg 1).noWork) ∧
    ((s.seg 1).state = .busy ⟨.host 9 .read, some o.lt,
      .addressRead 0x20 :: (List.replicate (data.length - 1) (.read true) ++ [.read false]), .transfer,
        ⟨false, false, false⟩⟩ ∧ o.segment = 1 ∧ o.kind = .read ∧
      (s.entry o.lt).binding = some (bindAt .active) ∧ data ≠ []) ∧
    ((d.entry o.lt).binding = some (bindAt .draining) ∧ (bindAt .draining).state = .draining ∧
      (d.entry o.lt).refCount = 1 ∧ d.notices.nq.length < 16 ∧ ∀ n, d.svLt n ≠ some o.lt) :=
  ⟨⟨readState_carries, ⟨rfl, by decide +kernel⟩, noneQueued_of_nil rfl, ⟨rfl, rfl, by decide +kernel⟩⟩,
    ⟨readState_carries, ⟨rfl, by decide +kernel⟩, noneQueued_of_nil rfl, ⟨rfl, rfl, by decide +kernel⟩⟩,
    by decide +kernel⟩

theorem witness_ShapesEndByTheirBytes :
    (request .write 0 0 [1, 2, 3] 0).kind = .write ∧ 2 < (request .write 0 0 [1, 2, 3] 0).writeData.length ∧
    (request .read 0 0 [] 2).kind = .read ∧
    ([0xAB, 0xCD] : List Byte).length = (request .read 0 0 [] 2).readLength ∧
    ([] : List Byte).length + 1 < (request .read 0 0 [] 2).readLength ∧
    (request .probe 0 0 [] 0).kind = .probe ∧ (request .writeRead 0 0 [1] 1).kind = .writeRead ∧
    (request .blockRead 0 0 [1] 32).kind = .blockRead ∧
    (request .blockRead 0 0 [1] 32).writeData.length = 1 ∧
    (∀ v ∈ ([1, 32] : List Byte), 1 ≤ v.toNat ∧ v.toNat ≤ (request .blockRead 0 0 [1] 32).readLength) ∧
    ∀ v ∈ ([0, 33] : List Byte), v.toNat = 0 ∨ (request .blockRead 0 0 [1] 32).readLength < v.toNat := by
  decide +kernel

/-- LT5 with FAIL_COUNT one below the threshold of `bindAt` and a PROBE of it on the bus. -/
def probing (st : Bound) : State :=
  (running (request .probe 0 0 [] 0) (.active false) false none
    (onBus .probe [.addressWrite 0x20] .transfer false)).putEntry 5 ⟨some (bindAt st), 2, 1⟩

theorem probing_carries (st : Bound) : (probing st).carries 9 (opSlot (.active false) .probe) 3
    (context (request .probe 0 0 [] 0) false none) :=
  carries_running (request .probe 0 0 [] 0) (.active false) false none
    (onBus .probe [.addressWrite 0x20] .transfer false) rfl

/-- `listed` with a WRITE in place of the PROBE. -/
def listedWrite : State :=
  (running (request .write 0 0 [1] 0) .pending false none (.recovering ⟨0, .check, none⟩)).putSeg 1
    { Segment.reset with state := .recovering ⟨0, .check, none⟩, pendingList := [9] }

theorem witness_FailCountAndIsolation :
    (∀ st, (probing st).carries 9 (opSlot (.active false) .probe) 3
        (context (request .probe 0 0 [] 0) false none) ∧ (probing st).postingOpen ∧
      (probing st).noneQueued ∧ ((probing st).seg 1).noWork) ∧
    (∀ st ∈ [Bound.active, .isolated], ((probing st).seg 1).state = .busy ⟨.host 9 .probe, some 5,
        [.addressWrite 0x20], .transfer, ⟨false, false, false⟩⟩ ∧
      ((probing st).entry 5).binding = some (bindAt st) ∧ (bindAt st).segment = 1 ∧
      (probing st).notices.nq.length < 16 ∧ ((probing st).entry 5).failCount + 1 = (bindAt st).threshold ∧
      ∀ n, (probing st).svLt n ≠ some 5) ∧
    (verdict [.addressWrite 0x20] [.nacked] = .ended ⟨.addressNack, 0, false, []⟩ ∧
      verdict [.addressWrite 0x20] [.acked] = .ended ⟨.done, 0, true, []⟩ ∧
      (request .probe 0 0 [] 0).retryBudget < (opSlot (.active false) .probe).attempts ∧
      (nothingDriven .busBusyTimeout).addrAcked = false) ∧
    (listedWrite.carries 9 (opSlot .pending .write) 3 (context (request .write 0 0 [1] 0) false none) ∧
      listedWrite.noneQueued ∧ listedWrite.postingOpen ∧
      (∀ m, (opSlot .pending .write).state ≠ .active m) ∧
      ∀ j ∈ (listed.seg 1).pendingList, ∀ p, listed.slot j = some p → p.lt ≠ 5 ∨ p.kind = .probe) ∧
    ((listedWrite.entry 5).binding = some (bindAt .active) ∧ (listedWrite.seg 1).pendingList = [9] ∧
      (listedWrite.seg 1).state ≠ .idle ∧ listedWrite.notices.nq.length < 16) :=
  ⟨fun st => ⟨probing_carries st, ⟨rfl, by cases st <;> decide +kernel⟩, noneQueued_of_nil rfl, rfl, rfl,
      by cases st <;> decide +kernel⟩, by decide +kernel, by decide +kernel,
    ⟨carries_running (request .write 0 0 [1] 0) .pending false none (.recovering ⟨0, .check, none⟩) rfl,
      noneQueued_of_nil rfl, ⟨rfl, by decide +kernel⟩, nofun,
      fun j _ p hp => .inr (by rw [(listed_slot hp).2]; rfl)⟩, by decide +kernel⟩

/-- `stopping` as one member of a group request with another operation outstanding. -/
def grouped : State :=
  (stopping ⟨false, false, false⟩ .transfer).putCtx 3 (some { context (request .write 0 0 [1, 2, 3] 0) false none with
    request := { request .write 0 0 [1, 2, 3] 0 with target := .group 2 }
    policy := some .any, outstanding := 2, members := [⟨5, none, 0, 0⟩, ⟨9, none, 0, 0⟩] })

theorem witness_FailCountAndIsolation_member :
    (grouped.noneQueued ∧ (grouped.seg 1).noWork) ∧
    ((grouped.seg 1).state = onBus .write [.addressWrite 0x20, .write 1, .write 2, .write 3] .transfer false ∧
      grouped.slot 9 = some (opSlot (.active false) .write) ∧
      (grouped.entry 5).binding = some ⟨.active, 1, 0x20, 0, true⟩ ∧
      (grouped.ctx 3).map (fun x => (x.outstanding, x.request.target)) = some (2, .group 2) ∧
      verdict [.addressWrite 0x20, .write 1, .write 2, .write 3] [.acked, .nacked] =
        .ended ⟨.dataNack, 0, true, []⟩) ∧
    ∀ x, ¬ (opSlot (.active false) .write).mayRetry x ⟨.dataNack, 0, true, []⟩ :=
  ⟨⟨noneQueued_of_nil rfl, rfl, rfl, fun h => Bool.false_ne_true h.1⟩, by decide +kernel, fun x h => by
    rcases h.1 with h | h | h <;> cases h⟩

/-- `surveyReading` with an LT that no failure isolates, and the entry to become what `x` says. -/
def calmReading (x : ExitTo) (mode : SurveyMode) (m : MirrorSlot) (now : Word16) : State :=
  atTime now ((surveyReading.putEntry 5 ⟨some ⟨.active, 1, 0x20, 0, true⟩, 0, 1⟩).putSv 2
    ⟨some ⟨{ surveyConf 0 with mode := mode }, .reading ⟨100, 0⟩ x⟩, 2, 0, .unknown⟩ |>.putMirror 2 m)

theorem calmReading_idle (x : ExitTo) (mode : SurveyMode) (m : MirrorSlot) (now : Word16) :
    (calmReading x mode m now).noneQueued ∧ ((calmReading x mode m now).seg 1).noWork :=
  ⟨noneQueued_of_nil rfl, rfl, rfl, fun h => Bool.false_ne_true h.1⟩

theorem witness_SurveyReadEnds :
    (∀ x now, let s := calmReading x .none (mirrorVal .stale) now
      (s.seg 1).state = .busy ⟨.survey 2, some 5, [.addressRead 0x20, .read false], .transfer,
        ⟨false, false, false⟩⟩ ∧
      (s.sv 2).setup = some ⟨surveyConf 0, .reading ⟨100, 0⟩ x⟩ ∧
      (s.entry 5).binding = some ⟨.active, 1, 0x20, 0, true⟩ ∧ (s.seg 1).busFree = false ∧
      s.notices.nq.length ≤ 14) ∧
    Current.endsBy ⟨.survey 2, some 5, [.addressRead 0x20, .read false], .transfer, ⟨false, false, false⟩⟩
      ⟨[.acked, .read 0x42 false], 0⟩ ⟨.done, 0, true, [0x42]⟩ :=
  ⟨fun _ _ => ⟨rfl, rfl, rfl, rfl, Nat.zero_le _⟩, rfl, .inl ⟨rfl, by decide +kernel⟩⟩

/-- `calmReading` of an LT retired during the read, with `refs` references left, and STOPPED entry 3 set
for it since. -/
def drainingReading (refs : Nat) : State :=
  ((calmReading .orphaned .none (mirrorVal .valid) 150).putEntry 5
    ⟨some ⟨.draining, 1, 0x20, 3, true⟩, 0, refs⟩).putSv 3 ⟨some ⟨surveyConf 0, .stopped⟩, 0, 0, .unknown⟩

theorem witness_SurveyReadEnds_drains :
    (∀ refs, let s := drainingReading refs
      (s.seg 1).state = .busy ⟨.survey 2, some 5, [.addressRead 0x20, .read false], .transfer,
        ⟨false, false, false⟩⟩ ∧
      (s.sv 2).setup = some ⟨surveyConf 0, .reading ⟨100, 0⟩ .orphaned⟩ ∧
      (s.entry 5).binding = some ⟨.draining, 1, 0x20, 3, true⟩ ∧ (s.entry 5).refCount = refs ∧
      s.notices.nq.length ≤ 14) ∧
    (∀ refs, (drainingReading refs).noneQueued ∧ ((drainingReading refs).seg 1).noWork ∧
      ((drainingReading refs).seg 1).busFree = false) ∧ (2 : Nat) ≠ 1 :=
  ⟨fun _ => ⟨rfl, rfl, rfl, rfl, Nat.zero_le _⟩,
    fun _ => ⟨noneQueued_of_nil rfl, (calmReading_idle .orphaned .none (mirrorVal .valid) 150).2, rfl⟩,
    by decide⟩

theorem witness_SurveyReadEnds_recovers :
    (calmReading .waiting .none (mirrorVal .stale) 150).takesRead 2 (surveyConf 0) ⟨.done, 0, true, [0x42]⟩
      ⟨5, .valid, 1, 0x42, 150⟩ 0 .unknown [.surveyRecovered 2 5 0x42] := by
  refine ⟨fun _ => ⟨rfl, 0x42, [], ?_, ?_, ?_, by decide +kernel, rfl, rfl⟩, nofun⟩
  · unfold readValue; decide +kernel
  all_goals unfold MirrorSlot.stores; decide +kernel

theorem witness_SurveyReadEnds_window :
    (calmReading .waiting (.window 0 9) (mirrorVal .valid) 150).takesRead 2
      { surveyConf 0 with mode := .window 0 9 } ⟨.done, 0, true, [0x11]⟩ ⟨4, .valid, 1, 0x11, 150⟩ 0 .above
      [.surveyWindow 2 .above .unknown 4 0x11] := by
  refine ⟨fun _ => ⟨rfl, 0x11, [.surveyWindow 2 .above .unknown 4 0x11], ?_, ?_, ?_, by decide +kernel,
    ?_, nofun, fun _ _ => by decide +kernel⟩, nofun⟩
  · unfold readValue; decide +kernel
  · unfold MirrorSlot.stores; decide +kernel
  · unfold MirrorSlot.stores; decide +kernel
  · unfold placedBy; decide +kernel

theorem witness_SurveyReadEnds_fails :
    (calmReading .waiting .none (mirrorVal .valid) 150).takesRead 2 (surveyConf 0)
      ⟨.addressNack, 0, false, []⟩ (mirrorVal .stale) 3 .unknown [.surveyFailed 2 5 .addressNack 3] :=
  ⟨nofun, fun _ => by decide +kernel⟩

theorem witness_AlertQueryEnds :
    let x : AlertState := ⟨some 0x20, 7, 2, false⟩
    let s := alertState.putSeg 1 { alertState.seg 1 with alert := x }
    (s.noneQueued ∧ AddressLaw s ∧ ¬ s.bound 1 0x21) ∧
    ((s.seg 1).state = .busy ⟨.alert, none, [.addressRead 0x0C, .read false], .transfer,
        ⟨false, false, false⟩⟩ ∧ (s.seg 1).pendingList = [] ∧ (s.seg 1).dueList = [] ∧
      (s.seg 1).busFree = false ∧ s.notices.nq.length ≤ 14 ∧
      (s.entry 5).binding = some (bindAt .active) ∧ (bindAt .active).address = 0x20 ∧
      ∀ v ∈ ([0x40, 0x41] : List Byte), (0x20 : BusAddr).toNat = v.toNat / 2) ∧
    Current.endsBy ⟨.alert, none, [.addressRead 0x0C, .read false], .transfer, ⟨false, false, false⟩⟩
      ⟨[.acked, .read 0x41 false], 0⟩ ⟨.done, 0, true, [0x41]⟩ ∧
    Current.endsBy ⟨.alert, none, [.addressRead 0x0C, .read false], .transfer, ⟨false, false, false⟩⟩
      ⟨[.nacked], 0⟩ ⟨.addressNack, 0, false, []⟩ ∧
    x.answered ⟨some 0x20, 8, 0, true⟩ 0x20 ∧ x.answered ⟨some 0x21, 1, 0, false⟩ 0x21 ∧
    x.missed ⟨none, 0, 3, true⟩ .addressNack := by
  have e : ∀ (n : LtId) b, (alertState.entry n).binding = some b → n = 5 ∧ b = bindAt .active := by
    intro n b h
    simp only [alertState, seg1, State.inState, mapped, State.entry_putSeg_read, State.entry_putEntry] at h
    split at h
    · next g => exact ⟨g.symm, (Option.some.inj h).symm⟩
    · simp [State.entry, State.reset, MapEntry.free] at h
  refine ⟨⟨noneQueued_of_nil rfl, ⟨fun m n a b ha hb _ _ => ?_, fun n b hb => ?_⟩, ?_⟩, by decide +kernel,
    ⟨rfl, .inl ⟨rfl, by decide +kernel⟩⟩, ⟨rfl, .inl ⟨rfl, by decide +kernel⟩⟩, ?_⟩
  · rw [(e m a ha).1, (e n b hb).1]
  · rw [(e n b hb).2]; decide +kernel
  · rintro ⟨m, b, hb, _, ha⟩
    rw [(e m b hb).2] at ha
    exact absurd ha (by decide)
  · unfold AlertState.answered AlertState.missed; decide +kernel

theorem witness_StatusOfRequests :
    let x (o : Outcome) (c : Bool) (p : Option Policy) : Context :=
      { context (request .write 0 0 [1] 0) c none with members := [⟨5, some o, 1, 0⟩], policy := p }
    ((x .done false none).members = [⟨5, some .done, 1, 0⟩] ∧ (x .done false none).policy = none) ∧
    (x .aborted true none).cancelRequested = true ∧
    ((x .aborted true (some .all)).cancelRequested = true ∧
      ∃ m ∈ (x .aborted true (some .all)).members, m.outcome = some .cancelled ∨ m.outcome = some .aborted) ∧
    (x .done false (some (.quorum 1))).policy = some (.quorum 1) ∧
    (Policy.quorum 1).met (x .done false (some (.quorum 1))).members ∧
    ¬ Policy.any.met (x .dataNack false (some .any)).members :=
  ⟨⟨rfl, rfl⟩, rfl, ⟨rfl, _, List.mem_singleton.2 rfl, .inr rfl⟩, rfl, by unfold Policy.met; decide,
    by unfold Policy.met; decide⟩

theorem witness_AlertInputChanges :
    let s := (alerting false).putSeg 1 { (alerting false).seg 1 with alertLow := false }
    ((s.seg 1).linesFree ∧ s.noneQueued) ∧
    ((s.seg 1).alertLow = false ∧ (s.seg 1).state = .idle ∧ (s.seg 1).config.alertEnable = true ∧
      (s.seg 1).alert.suspended = false ∧ (s.seg 1).busFree = false ∧
      (State.reset.seg 1).alertLow = false ∧ (State.reset.seg 1).state ≠ .idle ∧
      ((alerting true).seg 1).alertLow = true ∧ ((alerting true).seg 1).state ≠ .disabled ∧
      ((alerting true).seg 1).config.alertEnable = true ∧
      ((State.reset.putSeg 1 { Segment.reset with alertLow := true }).seg 1).alertLow = true) :=
  ⟨⟨linesFree_of_high rfl rfl, noneQueued_of_nil rfl⟩, by decide +kernel⟩

theorem witness_RecoveryEnds :
    (recovering.noneQueued ∧ (recovering.seg 1).noWork) ∧
    ((recovering.seg 1).state = .recovering ⟨0, .check, none⟩ ∧ recovering.notices.nq.length < 16 ∧
      (recovering.seg 1).busFree = false ∧
      (∀ n, recovering.svSeg n = some 1 → recovering.svRun n ≠ some .held) ∧
      (recovering.seg 1).pendingList = []) ∧
    (listed.carries 9 (opSlot .pending .probe) 3 (context (request .probe 0 0 [] 0) false none) ∧
      listed.noneQueued ∧ listed.postingOpen) ∧
    ((listed.seg 1).state = .recovering ⟨0, .check, none⟩ ∧ (listed.seg 1).pendingList = [9] ∧
      (listed.entry 5).binding = some (bindAt .active)) :=
  ⟨⟨noneQueued_of_nil rfl, rfl, rfl, by decide +kernel⟩, by decide +kernel,
    ⟨carries_running (request .probe 0 0 [] 0) .pending false none (.recovering ⟨0, .check, none⟩) rfl,
      noneQueued_of_nil rfl, rfl, by decide +kernel⟩, by decide +kernel⟩

end Sys2Proof.Tests
end

section
/-! The resets and the group table (R23, R185, R186): what a reset command at hand comes to, one
EngineFrame lemma per part of an engine reset, and the group table through both resets. -/

namespace Sys2Proof.Machine

/-! ### Reset commands at hand -/

/-- R179, R185: SOFT_RESET at hand is a device reset. -/
theorem exec_softReset_at {s : State} {rest : List Action} (h : s.atAction .softReset rest) :
    exec .softReset s = finish (deviceReset (s.leaving rest)) :=
  congrArg finish (takeAction_at deviceReset h)

/-- R179, R186: ENGINE_RESET at hand is an engine reset. -/
theorem exec_engineReset_at {s : State} {rest : List Action} (h : s.atAction .engineReset rest) :
    exec .engineReset s = finish (engineReset (s.leaving rest)) :=
  congrArg finish (takeAction_at engineReset h)

/-- R185: DEVICE_RESET with RESET_N high is a device reset that leaves RESET_N low. -/
theorem exec_deviceReset_high {s : State} (h : s.port.resetN = true) :
    exec .deviceReset s = finish (setResetN false (deviceReset s)) :=
  congrArg finish (if_pos h)

/-! ### Device reset -/

@[simp] theorem setResetN_groups (high : Bool) (s : State) : (setResetN high s).groups = s.groups := rfl

/-- R23: at device reset every group is undefined. -/
@[simp] theorem look_deviceReset_groups (s : State) (g : GroupId) :
    look (deviceReset s).groups g = Group.undefined := look_replicate _ g

/-! ### Engine reset -/

@[simp] theorem setRq_groups (q : List RqEntry) (s : State) : (setRq q s).groups = s.groups := by
  unfold setRq
  split <;> rfl

@[simp] theorem emptyQueues_groups (s : State) : (emptyQueues s).groups = s.groups := setRq_groups [] s

theorem forSegs_frame (f : SegId → State → State) (h : ∀ i s, EngineFrame s (f i s)) (s : State) :
    EngineFrame s (forSegs f s) := foldl_frame f h _ s

theorem emptyNotices_frame (s : State) : EngineFrame s (emptyNotices s) :=
  { EngineFrame.refl s with nqLength := Nat.zero_le _ }

theorem resetSurveyEntry_frame (n : SvId) (s : State) : EngineFrame s (resetSurveyEntry n s) := by
  unfold resetSurveyEntry
  split
  · exact putSvRun_frame _ _ _
  · exact putSvRun_frame _ _ _
  · exact putSvRun_frame _ _ _
  · exact EngineFrame.refl s

theorem emptySegments_frame (s : State) : EngineFrame s { s with segs := s.segs.map emptySegment } :=
  { EngineFrame.refl s with
    config := fun i => by simp [State.seg, emptySegment]
    alertLow := fun i => by simp [State.seg, emptySegment]
    clockLine := fun i => by simp [State.seg, emptySegment] }

theorem endWithoutOwner_frame (c : Current) (r : AttemptResult) (s : State) :
    EngineFrame s (endWithoutOwner c r s) := (mapTakes_frame c r s).trans (isolateIf_frame _ c _)

theorem afterResetEnd_frame (i : SegId) (c : Current) (r : AttemptResult) (s : State) :
    EngineFrame s (afterResetEnd i c r s) := by
  unfold afterResetEnd
  split
  · exact completeDisable_frame i s
  · split
    · exact enterRecovering_frame i _ s
    · exact putSeg_frame s i _ rfl rfl rfl

theorem resetEngine_frame (i : SegId) (s : State) : EngineFrame s (resetEngine i s) := by
  unfold resetEngine
  split
  case h_1 | h_2 => exact EngineFrame.refl s
  case h_3 | h_4 => exact putSeg_frame s i _ rfl rfl rfl
  case h_5 c _ =>
    split
    · exact (endWithoutOwner_frame _ _ s).trans (afterResetEnd_frame i _ _ _)
    · exact (endWithoutOwner_frame _ _ s).trans (afterResetEnd_frame i _ _ _)
    · exact putSeg_frame s i _ rfl rfl rfl

theorem resetMapEntry_frame (lt : LtId) (s : State) : EngineFrame s (resetMapEntry lt s) := by
  have count (n : Nat) : EngineFrame s (s.putEntry lt { s.entry lt with refCount := n }) :=
    putEntry_frame s lt _ (BindingKept.refl _)
  unfold resetMapEntry
  dsimp only
  split
  · exact count 1
  · split
    · exact (count 0).trans (if_frame (completeRetirement_frame _ _ _ _))
    · exact count 0

theorem resetMap_frame (s : State) : EngineFrame s (resetMap s) := foldl_frame _ resetMapEntry_frame _ s

theorem resetRelease_frame (old : State) (i : SegId) (s : State) :
    EngineFrame s (resetRelease old i s) := by
  unfold resetRelease
  split
  · exact releaseSegment_frame i s
  · exact EngineFrame.refl s

theorem resetOpportunity_frame (old : State) (i : SegId) (s : State) :
    EngineFrame s (resetOpportunity old i s) := if_frame (arbitrate_frame i s)

/-- R186: once the queues are emptied, the rest of an engine reset is work of the engines. -/
theorem engineReset_frame (s : State) : EngineFrame (emptyQueues s) (engineReset s) :=
  (forSurvey_frame _ resetSurveyEntry_frame _).trans <|
  (emptySegments_frame _).trans <|
  (forSegs_frame _ resetEngine_frame _).trans <|
  (resetMap_frame _).trans <|
  (emptyNotices_frame _).trans <|
  (forSegs_frame _ (resetRelease_frame s) _).trans <|
  forSegs_frame _ (resetOpportunity_frame s) _

/-- R23: engine reset keeps the group table. -/
@[simp] theorem engineReset_groups (s : State) : (engineReset s).groups = s.groups :=
  (engineReset_frame s).groups.trans (emptyQueues_groups s)

/-- Settles O20: a device reset writes every group afresh, and each part of an engine reset keeps the
group table. -/
theorem groupTableThroughResets : Obligations.GroupTableThroughResets := by
  intro s
  refine ⟨fun high => ⟨_, exec_deviceReset_high high, fun g => ?_⟩,
    fun rest soft => ⟨_, exec_softReset_at soft, fun g => ?_⟩,
    fun rest engine => ⟨_, exec_engineReset_at engine, ?_⟩⟩
  · rw [judgeIrq_groups, setResetN_groups, look_deviceReset_groups, Group.undefined]
  · rw [judgeIrq_groups, look_deviceReset_groups, Group.undefined]
  · rw [judgeIrq_groups, engineReset_groups, leaving_groups]

end Sys2Proof.Machine
end

section
/-! Resolution of targets and placement of operations (R47, R61, R62): what `resolve` answers in each
state of the map entry and of its segment, and where `placeIn` puts a slot. -/

namespace Sys2Proof.Machine

/-! ### Resolution of one target -/

/-- TABLE 20: a FREE target is retired. -/
theorem resolve_free {s : State} {lt : LtId} (kind : Kind) (h : (s.entry lt).binding = none) :
    resolve s kind lt = .failed .targetRetired := by
  simp [resolve, h]

/-- TABLE 20: so is a DRAINING one. -/
theorem resolve_draining {s : State} {lt : LtId} {b : Binding} (kind : Kind)
    (hb : (s.entry lt).binding = some b) (h : b.state = .draining) :
    resolve s kind lt = .failed .targetRetired := by
  simp [resolve, hb, h]

/-- TABLE 20: an ISOLATED target lets nothing but a PROBE through. -/
theorem resolve_isolated {s : State} {lt : LtId} {b : Binding} {kind : Kind}
    (hb : (s.entry lt).binding = some b) (h : b.state = .isolated) (hk : kind ≠ .probe) :
    resolve s kind lt = .failed .targetIsolated := by
  simp [resolve, hb, h, hk]

/-- TABLE 20: of a target the map entry lets through, the segment decides. -/
theorem resolve_passed {s : State} {lt : LtId} {b : Binding} {kind : Kind}
    (hb : (s.entry lt).binding = some b)
    (h : b.state = .active ∨ b.state = .isolated ∧ kind = .probe) :
    resolve s kind lt = resolveOnSegment s b := by
  rcases h with h | ⟨h, hk⟩
  · simp [resolve, hb, h]
  · simp [resolve, hb, h, hk]

theorem resolveOnSegment_disabled {s : State} {b : Binding} (h : (s.seg b.segment).state = .disabled) :
    resolveOnSegment s b = .failed .segmentDisabled := by
  simp [resolveOnSegment, State.segState, h]

theorem resolveOnSegment_faulted {s : State} {b : Binding} {r : Recovery}
    (h : (s.seg b.segment).state = .faulted r) :
    resolveOnSegment s b = .failed .segmentFaulted := by
  simp [resolveOnSegment, State.segState, h]

/-- TABLE 20: IDLE, BUSY and RECOVERING segments take work. -/
theorem resolveOnSegment_live {s : State} {b : Binding} (hd : (s.seg b.segment).state ≠ .disabled)
    (hf : ∀ r, (s.seg b.segment).state ≠ .faulted r) :
    resolveOnSegment s b = .live b.segment b.address := by
  unfold resolveOnSegment State.segState
  cases h : (s.seg b.segment).state with
  | disabled => exact absurd h hd
  | faulted r => exact absurd h (hf r)
  | idle | busy _ | recovering _ => rfl

/-- Settles O25, line by line of TABLE 20. -/
theorem resolutionTable : Obligations.ResolutionTable := by
  intro s kind lt
  refine ⟨resolve_free kind, fun b hb => ⟨resolve_draining kind hb, resolve_isolated hb, fun h => ?_⟩⟩
  rw [resolve_passed hb h]
  exact ⟨resolveOnSegment_disabled, fun _ => resolveOnSegment_faulted, resolveOnSegment_live⟩

/-! ### Placement after the last item of a kind -/

/-- R62: with no item of the kind, the new item goes to the head. -/
theorem insertAfterLast_none {p : SlotId → Bool} (x : SlotId) {l : List SlotId}
    (h : ∀ y ∈ l, p y = false) : insertAfterLast p x l = x :: l := by
  cases l with
  | nil => rfl
  | cons y ys =>
    have hys : ys.any p = false := List.any_eq_false.2 fun z hz => by simp [h z (by simp [hz])]
    simp [insertAfterLast, hys, h y (by simp)]

/-- R62: behind the last item of the kind, the new item goes directly after it. -/
theorem insertAfterLast_last {p : SlotId → Bool} (x : SlotId) {y : SlotId} {l2 : List SlotId}
    (hy : p y = true) (h : ∀ z ∈ l2, p z = false) :
    ∀ l1 : List SlotId, insertAfterLast p x (l1 ++ y :: l2) = l1 ++ y :: x :: l2
  | [] => by
    have hl2 : l2.any p = false := List.any_eq_false.2 fun z hz => by simp [h z hz]
    simp [insertAfterLast, hl2, hy]
  | w :: l1 => by
    have hany : (l1 ++ y :: l2).any p = true := List.any_eq_true.2 ⟨y, by simp, hy⟩
    simp [insertAfterLast, hany, insertAfterLast_last x hy h l1]

/-- The kind matters for the items of the list alone. -/
theorem insertAfterLast_congr {p q : SlotId → Bool} (x : SlotId) :
    ∀ {l : List SlotId}, (∀ y ∈ l, p y = q y) → insertAfterLast p x l = insertAfterLast q x l
  | [], _ => rfl
  | y :: ys, h => by
    have hys : ∀ z ∈ ys, p z = q z := fun z hz => h z (List.mem_cons_of_mem y hz)
    have hany : ys.any p = ys.any q := by
      rw [Bool.eq_iff_iff, List.any_eq_true, List.any_eq_true]
      exact exists_congr fun z => and_congr_right fun hz => by rw [hys z hz]
    simp only [insertAfterLast, hany, h y List.mem_cons_self, insertAfterLast_congr x hys]

/-! ### Placement in a pending list -/

/-- R61: the slots an URGENT operation for `lt` is placed after: those that are URGENT or name `lt`. -/
def staysAhead (slots : SlotId → Option OpSlot) (lt : LtId) (y : SlotId) : Bool :=
  (slots y).any fun o => o.priority == .urgent || o.lt == lt

theorem staysAhead_of {slots : SlotId → Option OpSlot} {lt : LtId} {y : SlotId} {o : OpSlot}
    (hy : slots y = some o) (h : o.priority = .urgent ∨ o.lt = lt) : staysAhead slots lt y = true := by
  simpa [staysAhead, hy] using h

theorem not_staysAhead_of {slots : SlotId → Option OpSlot} {lt : LtId} {y : SlotId}
    (h : ∀ o, slots y = some o → o.priority ≠ .urgent ∧ o.lt ≠ lt) : staysAhead slots lt y = false := by
  cases hy : slots y with
  | none => simp [staysAhead, hy]
  | some o => simpa [staysAhead, hy] using h o hy

theorem placeIn_normal (slots : SlotId → Option OpSlot) (k : SlotId) (lt : LtId) (l : List SlotId) :
    placeIn slots k lt .normal l = l ++ [k] := rfl

theorem placeIn_urgent (slots : SlotId → Option OpSlot) (k : SlotId) (lt : LtId) (l : List SlotId) :
    placeIn slots k lt .urgent l = insertAfterLast (staysAhead slots lt) k l :=
  insertAfterLast_congr k fun y _ => by
    unfold staysAhead
    cases slots y <;> rfl

/-- Placement reads the listed slots alone. -/
theorem placeIn_congr {f g : SlotId → Option OpSlot} (k : SlotId) (lt : LtId) (p : Priority)
    {l : List SlotId} (h : ∀ y ∈ l, f y = g y) : placeIn f k lt p l = placeIn g k lt p l := by
  cases p with
  | normal => rfl
  | urgent =>
    rw [placeIn_urgent, placeIn_urgent]
    exact insertAfterLast_congr k fun y hy => by rw [staysAhead, staysAhead, h y hy]

/-- R51, R61: the placement of a slot leaves the other segments alone. -/
theorem placeSlot_seg_ne (c : CtxId) (r : Request) (t : LiveTarget) (k : SlotId) (s : State) {j : SegId}
    (h : j ≠ t.seg) : (placeSlot c r t k s).seg j = s.seg j := by
  simp [placeSlot, addRef, State.seg_putSeg, h.symm]

/-- R51, R61: a slot not listed is placed by the slots listed, as they were before it was filled. -/
theorem placeSlot_pendingList (c : CtxId) (r : Request) (t : LiveTarget) {k : SlotId} {s : State}
    (h : k ∉ (s.seg t.seg).pendingList) :
    ((placeSlot c r t k s).seg t.seg).pendingList =
      placeIn s.slot k t.lt r.priority (s.seg t.seg).pendingList := by
  simp only [placeSlot, addRef, State.seg_putSeg_self, State.seg_putEntry_read, State.seg_putSlot_read]
  refine placeIn_congr k t.lt r.priority fun y hy => ?_
  have hne : k ≠ y := fun e => h (e ▸ hy)
  rw [State.slot_putEntry_read, State.slot_putSlot, if_neg hne]

/-- Settles O26: the tail for NORMAL, and for URGENT the place `insertAfterLast` finds. -/
theorem placementOfOperations : Obligations.PlacementOfOperations := by
  rintro c r t k s _ rfl hk
  rw [placeSlot_pendingList c r t hk]
  refine ⟨fun j hj => by rw [placeSlot_seg_ne c r t k s hj], fun hn => ?_, fun hu => ⟨?_, fun h => ?_⟩⟩
  · rw [hn, placeIn_normal]
  · intro l1 y l2 o hl hy ho h
    rw [hu, placeIn_urgent, hl]
    exact insertAfterLast_last k (staysAhead_of hy ho) (fun z hz => not_staysAhead_of (h z hz)) l1
  · rw [hu, placeIn_urgent]
    exact insertAfterLast_none k fun z hz => not_staysAhead_of (h z hz)

end Sys2Proof.Machine
end

section
/-! Device reset and the work of the part (R69, R165): what it leaves of the dispatcher's side, the
survey engine, the mirror and the map. -/

namespace Sys2Proof.Machine

/-! ### The tables after a device reset -/

@[simp] theorem ctx_deviceReset (s : State) (c : CtxId) : (deviceReset s).ctx c = none :=
  look_replicate _ c

@[simp] theorem slot_deviceReset (s : State) (k : SlotId) : (deviceReset s).slot k = none :=
  look_replicate _ k

@[simp] theorem seg_deviceReset (s : State) (i : SegId) :
    (deviceReset s).seg i = (s.seg i).deviceReset := look_map _ s.segs i

@[simp] theorem sv_deviceReset (s : State) (n : SvId) : (deviceReset s).sv n = SurveyEntry.unused :=
  look_replicate _ n

@[simp] theorem mirrorSlot_deviceReset (s : State) (n : SvId) :
    (deviceReset s).mirrorSlot n = MirrorSlot.cleared := look_replicate _ n

@[simp] theorem entry_deviceReset (s : State) (lt : LtId) : (deviceReset s).entry lt = MapEntry.free :=
  look_replicate _ lt

/-- R69, R97: nothing is listed on a segment. -/
theorem deviceReset_unlists (s : State) (i : SegId) :
    ((deviceReset s).seg i).pendingList = [] ∧ ((deviceReset s).seg i).dueList = [] := by
  rw [seg_deviceReset]
  exact ⟨rfl, rfl⟩

/-- R97: every segment is DISABLED, so none is BUSY. -/
theorem deviceReset_notBusy (s : State) (i : SegId) (c : Current) :
    ((deviceReset s).seg i).state ≠ .busy c := by
  rw [seg_deviceReset]
  exact nofun

/-- R165: the fields of an UNUSED survey entry. -/
theorem deviceReset_unused (s : State) (n : SvId) :
    ((deviceReset s).sv n).setup = none ∧ ((deviceReset s).sv n).consecFails = 0 ∧
      ((deviceReset s).sv n).overruns = 0 ∧ ((deviceReset s).sv n).windowState = .unknown := by
  rw [sv_deviceReset]
  exact ⟨rfl, rfl, rfl, rfl⟩

/-! ### The counts read in the window -/

theorem filter_isSome_of_look_none {α : Type} {n : Nat} {t : Vector (Option α) n}
    (h : ∀ i, look t i = none) : t.toList.filter (·.isSome) = [] := by
  refine List.filter_eq_nil_iff.2 fun a ha => ?_
  obtain ⟨i, hi, rfl⟩ := List.getElem_of_mem ha
  have hn : t.toList[i] = none := h ⟨i, by simpa using hi⟩
  simp [hn]

/-- R53, TABLE 71: with every context free the contexts count reads 0. -/
theorem windowByte_contexts_free {s : State} (h : ∀ c, s.ctx c = none) : s.windowByte 0x021 = 0 := by
  change byteOf (contextCount s) = 0
  rw [contextCount, filter_isSome_of_look_none h]
  rfl

/-- R57, TABLE 71: with every slot FREE the slots count reads 0. -/
theorem windowByte_slots_free {s : State} (h : ∀ k, s.slot k = none) : s.windowByte 0x022 = 0 := by
  change byteOf (slotCount s) = 0
  rw [slotCount, filter_isSome_of_look_none h]
  rfl

/-! ### The commands -/

/-- R179, R185: by the pin and by SOFT_RESET the part is left as `deviceReset` leaves it, but for the host
port, which keeps its pins, and IRQ_N. -/
theorem exec_reset_next {s : State} {c : Instr}
    (h : (c = .deviceReset ∧ s.port.resetN = true) ∨
      (c = .softReset ∧ ∃ rest, s.atAction .softReset rest)) :
    ∃ (u : State) (p : HostPort) (q : InterruptUnit),
      exec c s = .next { deviceReset u with port := p, irq := q } := by
  rcases h with ⟨rfl, high⟩ | ⟨rfl, rest, soft⟩
  · exact ⟨s, _, _, exec_deviceReset_high high⟩
  · exact ⟨s.leaving rest, _, _, exec_softReset_at soft⟩

/-- Settles O19: every table is written afresh, and the counts follow from the tables. -/
theorem deviceResetClearsWorkAndSurvey : Obligations.DeviceResetClearsWorkAndSurvey := by
  intro s c h
  obtain ⟨u, p, q, next⟩ := exec_reset_next h
  exact ⟨_, next, rfl, ctx_deviceReset u, slot_deviceReset u, deviceReset_unlists u,
    windowByte_contexts_free (ctx_deviceReset u), windowByte_slots_free (slot_deviceReset u),
    rfl, rfl, deviceReset_unused u, mirrorSlot_deviceReset u, deviceReset_notBusy u,
    entry_deviceReset u⟩

end Sys2Proof.Machine
end

section
/-! What a command does, said once for all of them (`exec_changes`): it ends in a next state with IRQ_N judged,
and but for six that configure, accept or reset it leaves alone what `CommandFrame` lists. The laws of the
part, the queue of commands and the configuration follow. -/

namespace Sys2Proof.Machine

/-! ### The effect of a command -/

/-- What each command makes of the state, before IRQ_N is judged. -/
def effect : Instr → State → State
  | .frameStart header => startFrame header
  | .frameEnd midByte => endFrame midByte
  | .windowWrite v => writeByte (fun _ => true) v
  | .cqThresholdWrite v => writeByte (fun a => a == 0x012) v
  | .coalesceTimeWrite v => writeByte (fun a => a == 0x013) v
  | .enablesWrite v => writeByte (fun a => a == 0x011) v
  | .timeCapture a => captureAt isTimeAddr captureTime a
  | .cqHeadCapture a => captureAt isCompletionAddr captureCq a
  | .nqHeadCapture a => captureAt isNoticeAddr captureNq a
  | .mirrorSnapshot a => captureAt isMirrorAddr (captureMirror a) a
  | .softReset => takeAction .softReset deviceReset
  | .deviceReset => fun s => if s.port.resetN then setResetN false (deviceReset s) else s
  | .resetRelease => setResetN true
  | .engineReset => takeAction .engineReset engineReset
  | .pause => takeAction .pause (setPaused true)
  | .resume => takeAction .resume resumeDispatcher
  | .clearRqSpace => takeAction .clearRqSpace clearRqSpace
  | .clearHostMisuse => takeAction .clearHostMisuse clearHostMisuse
  | .submit => takeAction .submit submission
  | .cqPop => takeAction .cqPop popCq
  | .nqPop => takeAction .nqPop popNq
  | .mapSet => takeCommand (codeIs 0x01) mapSet
  | .mapRetire => takeCommand (codeIs 0x02) mapRetire
  | .mapReinstate => takeCommand (codeIs 0x03) mapReinstate
  | .mapRead => takeCommand (codeIs 0x04) mapRead
  | .groupSet => takeCommand (codeIs 0x05) groupSet
  | .groupRead => takeCommand (codeIs 0x06) groupRead
  | .segmentConfig => takeCommand (codeIs 0x07) segmentConfig
  | .segmentEnable => takeCommand (codeIs 0x08) segmentEnable
  | .segmentDisable => takeCommand (codeIs 0x09) segmentDisable
  | .segmentClear => takeCommand (codeIs 0x0A) segmentClear
  | .alertResume => takeCommand (codeIs 0x0B) alertResume
  | .surveySet => takeCommand (codeIs 0x0C) surveySet
  | .surveyStart => takeCommand (codeIs 0x0D) surveyStart
  | .surveyStop => takeCommand (codeIs 0x0E) surveyStop
  | .surveyRead => takeCommand (codeIs 0x0F) surveyRead
  | .cancel => takeCommand (codeIs 0x10) cancel
  | .unknownCommand => takeCommand codeUnknown (answer .unknownCommand)
  | .tick l0 l1 l2 l3 => tick l0 l1 l2 l3
  | .backoffExpiry k => expireBackoff k
  | .timeStep => stepTime
  | .queuedDeadlineExpiry tag => expireQueued tag
  | .contextDeadlinePasses c => passDeadline c
  | .surveyFallsDue n => fallDue n
  | .busStartSeen i => fun s => putBusFree i false (seeStart i s)
  | .busFreeDetected i => busFreed i
  | .busyLimitExpiry i => busyLimit i
  | .stretchLimitExpiry i t l => stretchLimit i t l
  | .stopAtByteBoundary i t => stopAtBoundary i t
  | .transactionEnd i t l => transactionEnds i t l
  | .alertAsserted i => alertAsserts i
  | .alertReleased i => alertReleases i
  | .recoverySucceeds i seen => recoveryOk i seen
  | .recoveryFails i t => recoveryFails i t

/-- R183: every command ends in the next state of its effect, with IRQ_N judged. -/
theorem exec_eq_finish (c : Instr) (s : State) : exec c s = finish (effect c s) := by
  cases c <;> rfl

/-- The next state of a command is its effect with IRQ_N judged. -/
theorem exec_next_iff {c : Instr} {s t : State} : exec c s = .next t ↔ t = judgeIrq (effect c s) := by
  rw [exec_eq_finish, finish, Host.Outcome.next.injEq, eq_comm]

/-! ### What most commands leave alone -/

/-- What every command leaves alone but for those that configure, accept a request or reset the part. -/
structure CommandFrame (s t : State) : Prop where
  pending  : t.pending = s.pending
  config   : ∀ i, (t.seg i).config = (s.seg i).config
  binding  : ∀ lt, BindingKept (s.entry lt).binding (t.entry lt).binding
  survey   : ∀ n, (t.sv n).setup.map (·.conf) = (s.sv n).setup.map (·.conf)
  rqLength : t.rq.length ≤ s.rq.length
  cqLength : t.completion.cq.length ≤ max s.completion.cq.length 32
  nqLength : t.notices.nq.length ≤ max s.notices.nq.length 16
  tags     : (heldTags t).Subperm (heldTags s)

theorem CommandFrame.refl (s : State) : CommandFrame s s where
  pending := rfl
  config _ := rfl
  binding _ := BindingKept.refl _
  survey _ := rfl
  rqLength := Nat.le_refl _
  cqLength := Nat.le_max_left _ _
  nqLength := Nat.le_max_left _ _
  tags := List.Subperm.refl _

theorem CommandFrame.trans {s t u : State} (h : CommandFrame s t) (k : CommandFrame t u) :
    CommandFrame s u where
  pending := k.pending.trans h.pending
  config i := (k.config i).trans (h.config i)
  binding lt := (h.binding lt).trans (k.binding lt)
  survey n := (k.survey n).trans (h.survey n)
  rqLength := k.rqLength.trans h.rqLength
  cqLength := by have := h.cqLength; have := k.cqLength; omega
  nqLength := by have := h.nqLength; have := k.nqLength; omega
  tags := k.tags.trans h.tags

/-- What happens at slots, contexts, entries and buses leaves the host's side alone besides (R27, R34, R43,
R141, R183, R184). -/
structure EventFrame (s t : State) : Prop extends CommandFrame s t where
  port       : t.port = s.port
  timebase   : t.timebase = s.timebase
  groups     : t.groups = s.groups
  paused     : t.paused = s.paused
  enables    : t.irq.enables = s.irq.enables
  hostMisuse : t.irq.hostMisuse = s.irq.hostMisuse
  threshold  : t.completion.threshold = s.completion.threshold
  coalesce   : t.completion.coalesce = s.completion.coalesce

theorem EventFrame.refl (s : State) : EventFrame s s :=
  { CommandFrame.refl s with
    port := rfl, timebase := rfl, groups := rfl, paused := rfl, enables := rfl, hostMisuse := rfl
    threshold := rfl, coalesce := rfl }

theorem EventFrame.trans {s t u : State} (h : EventFrame s t) (k : EventFrame t u) : EventFrame s u :=
  { h.toCommandFrame.trans k.toCommandFrame with
    port := k.port.trans h.port
    timebase := k.timebase.trans h.timebase
    groups := k.groups.trans h.groups
    paused := k.paused.trans h.paused
    enables := k.enables.trans h.enables
    hostMisuse := k.hostMisuse.trans h.hostMisuse
    threshold := k.threshold.trans h.threshold
    coalesce := k.coalesce.trans h.coalesce }

theorem EngineFrame.event {s t : State} (h : EngineFrame s t) : EventFrame s t where
  pending := h.pending
  config := h.config
  binding := h.binding
  survey := h.survey
  rqLength := h.rqLength
  cqLength := h.cqLength
  nqLength := h.nqLength
  tags := h.tags
  port := h.port
  timebase := h.timebase
  groups := h.groups
  paused := h.paused
  enables := h.enables
  hostMisuse := h.hostMisuse
  threshold := h.threshold
  coalesce := h.coalesce

theorem EngineFrame.command {s t : State} (h : EngineFrame s t) : CommandFrame s t := h.event.toCommandFrame

/-! ### Writes of the host's side -/

/-- The host port, the latches, the timebase and the completion settings are no part of the frame. -/
theorem hostSide_frame (s : State) (p : HostPort) (q : InterruptUnit) (n m : Nat) :
    CommandFrame s { s with
      port := p, irq := q, completion := { s.completion with threshold := n, coalesce := m } } :=
  { CommandFrame.refl s with }

theorem port_frame (s : State) (p : HostPort) : CommandFrame s { s with port := p } :=
  { CommandFrame.refl s with }

theorem irq_frame (s : State) (q : InterruptUnit) : CommandFrame s { s with irq := q } :=
  { CommandFrame.refl s with }

theorem paused_frame (s : State) (p : Bool) : CommandFrame s { s with paused := p } :=
  { CommandFrame.refl s with }

theorem answer_frame (r : CommandResult) (s : State) : CommandFrame s (answer r s) := port_frame s _

theorem copyOut_frame (l : List Byte) (s : State) : CommandFrame s (copyOut l s) := port_frame s _

/-! ### Frames of the host port -/

theorem startFrame_frame (header : List Byte) (s : State) : CommandFrame s (startFrame header s) := by
  unfold startFrame
  split
  · exact port_frame s _
  · exact CommandFrame.refl s

theorem endFrame_frame (midByte : Bool) (s : State) : CommandFrame s (endFrame midByte s) := by
  unfold endFrame
  split
  · exact CommandFrame.refl s
  · refine CommandFrame.trans ?_ (port_frame _ _)
    split
    · exact irq_frame s _
    · exact CommandFrame.refl s

theorem markAction_frame (a : Action) (s : State) : CommandFrame s (markAction a s) := by
  unfold markAction
  split
  · exact CommandFrame.refl s
  · exact port_frame s _

theorem markIf_frame (b : Bool) (a : Action) (s : State) : CommandFrame s (markIf b a s) := by
  unfold markIf
  split
  · exact markAction_frame a s
  · exact CommandFrame.refl s

theorem landThreshold_frame (v : Byte) (s : State) : CommandFrame s (landThreshold v s) := by
  unfold landThreshold
  split
  · exact hostSide_frame s _ _ _ _
  · exact irq_frame s _

theorem ite_frame {p : Prop} [Decidable p] {s t u : State} (ht : CommandFrame s t)
    (hu : CommandFrame s u) : CommandFrame s (if p then t else u) := by
  split
  · exact ht
  · exact hu

theorem dite_frame {p : Prop} [Decidable p] {s u : State} {t : p → State}
    (ht : ∀ h, CommandFrame s (t h)) (hu : CommandFrame s u) :
    CommandFrame s (if h : p then t h else u) := by
  split
  · exact ht _
  · exact hu

/-- R178: a byte that lands touches the port, the latches and the completion settings alone. -/
theorem landByte_frame (a : WinAddr) (v : Byte) (s : State) : CommandFrame s (landByte a v s) :=
  ite_frame (((markIf_frame _ _ s).trans (markIf_frame _ _ _)).trans
    (markIf_frame _ _ _) |>.trans (markIf_frame _ _ _)) <| -- GLOBAL_CONTROL
  ite_frame ((markIf_frame _ _ s).trans (markIf_frame _ _ _)) <| -- CAUSES
  ite_frame (irq_frame s _) <| -- ENABLES
  ite_frame (landThreshold_frame v s) <| -- CQ_THRESHOLD
  ite_frame (hostSide_frame s _ _ _ _) <| -- COALESCE_TIME
  dite_frame (fun _ => port_frame s _) <| -- the staging fields
  ite_frame (CommandFrame.refl s) <| -- SUBMIT_COUNT
  ite_frame ((port_frame s _).trans (markIf_frame _ _ _)) <| -- SUBMIT
  ite_frame (markIf_frame _ _ s) <| -- CQ_POP
  ite_frame (markIf_frame _ _ s) <| -- NQ_POP
  ite_frame (port_frame s _) <| -- COMMAND_CODE
  dite_frame (fun _ => port_frame s _) <| -- ARGUMENTS
  ite_frame (markIf_frame _ _ s) (irq_frame s _) -- EXECUTE, and what is not writable

theorem writeByte_frame (here : WinAddr → Bool) (v : Byte) (s : State) :
    CommandFrame s (writeByte here v s) := by
  unfold writeByte
  split
  · exact CommandFrame.refl s
  · split
    · exact (landByte_frame _ v s).trans (port_frame _ _)
    · exact CommandFrame.refl s

theorem captureAt_frame (inRegion : WinAddr → Bool) (capture : State → HostPort → HostPort) (a : WinAddr)
    (s : State) : CommandFrame s (captureAt inRegion capture a s) := by
  unfold captureAt
  split
  · exact port_frame s _
  · exact CommandFrame.refl s

/-! ### Actions -/

/-- R186: the queues emptied by an engine reset. -/
theorem emptyQueues_frame (s : State) : CommandFrame s (emptyQueues s) := by
  have tags : heldTags (emptyQueues s) = [] := by
    unfold emptyQueues heldTags setRq
    split <;> simp [latchRqSpace]
  have setRq_nil : CommandFrame s (setRq [] s) := (setRq_frame s [] (by simp)).command
  exact { setRq_nil with
    cqLength := Nat.zero_le _
    tags := by rw [tags]; exact List.nil_subperm }

theorem engineReset_command (s : State) : CommandFrame s (engineReset s) :=
  (emptyQueues_frame s).trans (engineReset_frame s).command

theorem resumeDispatcher_frame (s : State) : CommandFrame s (resumeDispatcher s) := by
  unfold resumeDispatcher
  split
  · exact (paused_frame s false).trans (examine_frame _).command
  · exact CommandFrame.refl s

theorem cqTail_frame (s : State) {h : CqItem} {q : List CqItem} (e : s.completion.cq = h :: q) :
    CommandFrame s { s with completion := { s.completion with cq := q } } :=
  { CommandFrame.refl s with cqLength := by simp [e] }

theorem popCq_frame (s : State) : CommandFrame s (popCq s) := by
  unfold popCq
  split
  · exact irq_frame s _
  · next e => exact ((cqTail_frame s e).trans (postAll_frame _).command).trans (examine_frame _).command

theorem popNq_frame (s : State) : CommandFrame s (popNq s) := by
  unfold popNq
  split
  · exact irq_frame s _
  · next e => exact { CommandFrame.refl s with nqLength := by simp [e] }

/-! ### Control commands -/

theorem retireSurvey_frame (lt : LtId) (s : State) : EngineFrame s (retireSurvey lt s) :=
  forSurvey_frame _ (fun n s => if_frame (retireEntry_frame n s)) s

/-- A move of survey entries leaves the map alone. -/
theorem State.surveyMoved.map {s t : State} {i : SegId} {f : SurveyConf → SurveyRun → SurveyRun}
    {leaves : SurveyConf → SurveyRun → Bool} (h : s.surveyMoved t i f leaves) : t.map = s.map := by
  obtain ⟨e, -, -⟩ := h
  rw [e]

theorem retire_frame (lt : LtId) (b : Binding) (s : State) (h : (s.entry lt).binding = some b) :
    EngineFrame s (retire lt b s) := by
  unfold retire
  dsimp only
  split
  · exact (retireSurvey_frame lt s).trans (completeRetirement_frame _ _ _ _)
  · refine (retireSurvey_frame lt s).trans (putEntry_frame _ lt _ ?_)
    have map := (retireSurvey_moved h).map
    simp only [State.entry, map] at h ⊢
    rw [h]
    exact BindingKept.state b _

theorem mapRetire_frame (s : State) : CommandFrame s (mapRetire s) := by
  unfold mapRetire
  split
  · exact answer_frame _ s
  · split
    · exact answer_frame _ s
    · next hb =>
      split
      · exact answer_frame _ s
      · exact ((retire_frame _ _ s hb).trans (examine_frame _)).command.trans (answer_frame _ _)

theorem mapReinstate_frame (s : State) : CommandFrame s (mapReinstate s) := by
  unfold mapReinstate
  split
  · exact answer_frame _ s
  · split
    · exact answer_frame _ s
    · next hb =>
      split
      · have examined := (reinstate_frame _ _ s hb).trans (examine_frame _)
        refine CommandFrame.trans ?_ (answer_frame _ _)
        unfold reinstateTarget opportunityIfJoined
        dsimp only
        split
        · exact examined.command
        · exact (examined.trans (opportunity_frame _ _)).command
      · exact answer_frame _ s

theorem mapRead_frame (s : State) : CommandFrame s (mapRead s) := by
  unfold mapRead
  split
  · exact answer_frame _ s
  · exact (copyOut_frame _ s).trans (answer_frame _ _)

theorem groupSet_frame (s : State) : CommandFrame s (groupSet s) := by
  unfold groupSet
  split
  · exact answer_frame _ s
  · next g x _ =>
    have groups : CommandFrame s { s with groups := put s.groups g x } := { CommandFrame.refl s with }
    exact (groups.trans (examine_frame _).command).trans (answer_frame _ _)

theorem groupRead_frame (s : State) : CommandFrame s (groupRead s) := by
  unfold groupRead
  split
  · exact answer_frame _ s
  · exact (copyOut_frame _ s).trans (answer_frame _ _)

theorem segmentEnable_frame (s : State) : CommandFrame s (segmentEnable s) := by
  unfold segmentEnable
  split
  · exact answer_frame _ s
  · split
    · refine CommandFrame.trans (EngineFrame.command ?_) (answer_frame _ _)
      refine .trans (.trans (.trans ?_ (releaseSegment_frame _ _)) (examine_frame _))
        (opportunity_frame _ _)
      exact putSeg_frame s _ _ rfl rfl rfl
    · exact answer_frame _ s

theorem disableSegment_frame (i : SegId) (s : State) : EngineFrame s (disableSegment i s) := by
  unfold disableSegment
  split
  · exact EngineFrame.refl s
  · split
    · exact (putSegState_frame s _ _).trans (endTransaction_frame _ _ _ _)
    · exact putSegState_frame s _ _
  · exact completeDisable_frame _ s

theorem segmentDisable_frame (s : State) : CommandFrame s (segmentDisable s) := by
  unfold segmentDisable
  split
  · exact answer_frame _ s
  · exact (disableSegment_frame _ s).command.trans (answer_frame _ _)

theorem segmentClear_frame (s : State) : CommandFrame s (segmentClear s) := by
  unfold segmentClear
  split
  · exact answer_frame _ s
  · split
    · exact ((enterRecovering_frame _ _ s).trans (examine_frame _)).command.trans (answer_frame _ _)
    · exact answer_frame _ s

theorem alertResume_frame (s : State) : CommandFrame s (alertResume s) := by
  unfold alertResume
  split
  · exact answer_frame _ s
  · exact ((putAlert_frame s _ _).trans (opportunity_frame _ _)).command.trans (answer_frame _ _)

theorem startSurvey_frame (n : SvId) (c : SurveyConf) (s : State) : EngineFrame s (startSurvey n c s) := by
  unfold startSurvey opportunityIfJoined
  split
  · dsimp only
    split
    · split
      · exact setDueTime_frame _ _ _ _ s
      · exact (setDueTime_frame _ _ _ _ s).trans (opportunity_frame _ _)
    · exact putSvRun_frame s _ _
  · exact putSvRun_frame s _ _

theorem surveyStart_frame (s : State) : CommandFrame s (surveyStart s) := by
  unfold surveyStart
  split
  · exact answer_frame _ s
  · split
    · exact (startSurvey_frame _ _ s).command.trans (answer_frame _ _)
    · exact answer_frame _ s

theorem stopSurvey_frame (n : SvId) (r : SurveyRun) (s : State) : EngineFrame s (stopSurvey n r s) := by
  cases r with
  | waiting _ | held => exact putSvRun_frame s _ _
  | due _ => exact (leaveDue_frame _ s).trans (putSvRun_frame _ _ _)
  | reading d x =>
    unfold stopSurvey
    dsimp only
    split
    · exact EngineFrame.refl s
    · exact putSvRun_frame s _ _
  | stopped | orphaned => exact EngineFrame.refl s

theorem surveyStop_frame (s : State) : CommandFrame s (surveyStop s) := by
  unfold surveyStop
  split
  · exact answer_frame _ s
  · split
    · exact answer_frame _ s
    · exact answer_frame _ s
    · exact (stopSurvey_frame _ _ s).command.trans (answer_frame _ _)

theorem surveyRead_frame (s : State) : CommandFrame s (surveyRead s) := by
  unfold surveyRead
  split
  · exact answer_frame _ s
  · exact (copyOut_frame _ s).trans (answer_frame _ _)

theorem markSlot_frame (k : SlotId) (o : OpSlot) (s : State) : EngineFrame s (markSlot k o s) := by
  unfold markSlot
  dsimp only
  split
  · exact (putSlot_frame s _ _).trans (putSegState_frame _ _ _)
  · exact putSlot_frame s _ _

theorem withdrawSlot_frame (k : SlotId) (s : State) : EngineFrame s (withdrawSlot k s) := by
  unfold withdrawSlot
  split
  · exact EngineFrame.refl s
  · split
    · exact markSlot_frame _ _ s
    · exact slotEnd_frame _ _ _ s

theorem withdrawSlots_frame : ∀ (l : List SlotId) (s : State), EngineFrame s (withdrawSlots l s)
  | [], s => EngineFrame.refl s
  | k :: ks, s => (withdrawSlot_frame k s).trans (withdrawSlots_frame ks _)

theorem endIfWaiting_frame (i : SegId) (s : State) : EngineFrame s (endIfWaiting i s) := by
  unfold endIfWaiting
  split
  · split
    · exact if_frame (endTransaction_frame _ _ _ s)
    · exact EngineFrame.refl s
  · exact EngineFrame.refl s

/-- A held context written again with its request takes no tag. -/
theorem putCtx_again_frame {s : State} {c : CtxId} {x y : Context} (h : s.ctx c = some x)
    (hy : y.request = x.request) : EngineFrame s (s.putCtx c (some y)) :=
  putCtx_frame s c _ (.inr (by rw [h, Option.map_some, Option.map_some, hy]))

theorem cancelRunning_frame {c : CtxId} {x : Context} {s : State} (h : s.ctx c = some x) :
    EngineFrame s (cancelRunning c x s) :=
  ((putCtx_again_frame (y := { x with cancelRequested := true }) h rfl).trans
    (withdrawSlots_frame _ _)).trans (foldl_frame _ endIfWaiting_frame _ _)

theorem contextOf_ctx {s : State} {tag : Byte} {c : CtxId} {x : Context}
    (h : contextOf? s tag = some (c, x)) : s.ctx c = some x := by
  obtain ⟨d, -, hd⟩ := List.exists_of_findSome?_eq_some h
  split at hd
  · next hx =>
    split at hd <;> cases hd
    exact hx
  · cases hd

theorem cancelContext_frame (tag : Byte) (s : State) : CommandFrame s (cancelContext tag s) := by
  unfold cancelContext
  split
  · exact answer_frame _ s
  · next hx =>
    split
    · exact answer_frame _ s
    · split
      · exact answer_frame _ s
      · exact (cancelRunning_frame (contextOf_ctx hx)).command.trans (answer_frame _ _)

theorem cancel_frame (s : State) : CommandFrame s (cancel s) := by
  unfold cancel
  split
  · split
    · exact ((finishQueued_frame _ _ s).trans (examine_frame _)).command.trans (answer_frame _ _)
    · exact answer_frame _ s
  · exact cancelContext_frame _ s

/-! ### Time -/

theorem tickSegment_frame (i : SegId) (l : TickLines) (s : State) : CommandFrame s (tickSegment i l s) :=
  { CommandFrame.refl s with
    config := fun j => by
      unfold tickSegment
      rw [State.seg_putSeg]
      split
      · next e => subst e; rfl
      · rfl }

theorem tick_frame (l0 l1 l2 l3 : TickLines) (s : State) : CommandFrame s (tick l0 l1 l2 l3 s) := by
  have advance : CommandFrame s (advanceTick s) := { CommandFrame.refl s with }
  unfold tick
  split
  · exact (((advance.trans (tickSegment_frame 0 l0 _)).trans (tickSegment_frame 1 l1 _)).trans
      (tickSegment_frame 2 l2 _)).trans (tickSegment_frame 3 l3 _)
  · exact CommandFrame.refl s

theorem stepTime_frame (s : State) : CommandFrame s (stepTime s) := by
  unfold stepTime
  split
  · exact { CommandFrame.refl s with cqLength := by simp [ageRecords] }
  · exact CommandFrame.refl s

theorem expireBackoff_frame (k : SlotId) (s : State) : EngineFrame s (expireBackoff k s) := by
  unfold expireBackoff
  split
  · exact EngineFrame.refl s
  · split
    · exact if_frame ((putSlot_frame s _ _).trans (opportunity_frame _ _))
    · exact EngineFrame.refl s

theorem expireQueued_frame (tag : Byte) (s : State) : EngineFrame s (expireQueued tag s) := by
  unfold expireQueued
  split
  · exact EngineFrame.refl s
  · exact if_frame ((finishQueued_frame _ _ s).trans (examine_frame _))

theorem passDeadline_frame (c : CtxId) (s : State) : EngineFrame s (passDeadline c s) := by
  unfold passDeadline
  split
  · exact EngineFrame.refl s
  · next x hx =>
    exact if_frame ((putCtx_again_frame (y := { x with deadlinePassed := some true }) hx rfl).trans
      (endEach_frame _ _ _))

theorem fallDue_frame (n : SvId) (s : State) : EngineFrame s (fallDue n s) := by
  unfold fallDue
  split
  · exact if_frame ((joinDue_frame _ _ _ s).trans (opportunity_frame _ _))
  · exact EngineFrame.refl s

/-! ### The buses -/

/-- A segment written with its settings as they were. -/
theorem putSeg_event (s : State) (i : SegId) (g : Segment) (h : g.config = (s.seg i).config) :
    EventFrame s (s.putSeg i g) :=
  { EventFrame.refl s with
    config := fun j => by
      rw [State.seg_putSeg]
      split
      · next e => subst e; exact h
      · rfl }

theorem seeLines_frame (i : SegId) (l : Lines) (s : State) : EventFrame s (seeLines i l s) :=
  putSeg_event s i _ rfl

theorem putBusFree_frame (i : SegId) (f : Bool) (s : State) : EventFrame s (putBusFree i f s) :=
  putSeg_event s i _ rfl

theorem seeStart_frame (i : SegId) (s : State) : EventFrame s (seeStart i s) := putSeg_event s i _ rfl

theorem busFreed_frame (i : SegId) (s : State) : EventFrame s (busFreed i s) := by
  unfold busFreed
  split
  · exact (seeLines_frame i _ s).trans (putBusFree_frame i _ _)
  · split
    · exact (((seeLines_frame i _ s).trans (seeStart_frame i _)).trans (putBusFree_frame i _ _)).trans
        (putSegState_frame _ i _).event
    · exact EventFrame.refl s
  · exact EventFrame.refl s

theorem busyLimit_frame (i : SegId) (s : State) : EventFrame s (busyLimit i s) := by
  unfold busyLimit
  split
  · split
    · exact (endTransaction_frame _ _ _ s).event
    · exact EventFrame.refl s
  · exact EventFrame.refl s

theorem stretchLimit_frame (i : SegId) (t : BusTrace) (l : Lines) (s : State) :
    EventFrame s (stretchLimit i t l s) := by
  unfold stretchLimit
  split
  · split
    · split
      · unfold stretchEnds
        dsimp only
        split
        · exact (seeLines_frame i l s).trans (putSegState_frame _ i _).event
        · exact (seeLines_frame i l s).trans (endTransaction_frame _ _ _ _).event
      · exact EventFrame.refl s
    · exact EventFrame.refl s
  · exact EventFrame.refl s

theorem stopAtBoundary_frame (i : SegId) (t : BusTrace) (s : State) :
    EventFrame s (stopAtBoundary i t s) := by
  unfold stopAtBoundary
  split
  · split
    · split
      · exact (seeLines_frame i _ s).trans (endTransaction_frame _ _ _ _).event
      · exact EventFrame.refl s
    · exact EventFrame.refl s
  · exact EventFrame.refl s

theorem afterLoss_frame (i : SegId) (r : AttemptResult) (s : State) : EventFrame s (afterLoss i r s) := by
  unfold afterLoss
  split
  · exact putBusFree_frame i _ s
  · exact EventFrame.refl s

theorem transactionEnds_frame (i : SegId) (t : BusTrace) (l : Lines) (s : State) :
    EventFrame s (transactionEnds i t l s) := by
  unfold transactionEnds
  split
  · split
    · exact EventFrame.refl s
    · exact (seeLines_frame i l s).trans (endTransaction_frame _ _ _ _).event
    · split
      · split
        · exact ((seeLines_frame i l s).trans (afterLoss_frame i _ _)).trans
            (endTransaction_frame _ _ _ _).event
        · exact EventFrame.refl s
      · exact EventFrame.refl s
  · exact EventFrame.refl s

theorem putAlertLow_frame (i : SegId) (low : Bool) (s : State) : EventFrame s (putAlertLow i low s) :=
  putSeg_event s i _ rfl

theorem alertAsserts_frame (i : SegId) (s : State) : EventFrame s (alertAsserts i s) := by
  unfold alertAsserts
  split
  · exact EventFrame.refl s
  · split
    · exact (putAlertLow_frame i _ s).trans (opportunity_frame _ _).event
    · exact putAlertLow_frame i _ s

theorem alertReleases_frame (i : SegId) (s : State) : EventFrame s (alertReleases i s) := by
  unfold alertReleases
  split
  · dsimp only
    split
    · exact (putAlertLow_frame i _ s).trans (putAlert_frame _ _ _).event
    · exact putAlertLow_frame i _ s
  · exact EventFrame.refl s

theorem recoveryOk_frame (i : SegId) (seen : List Lines) (s : State) :
    EventFrame s (recoveryOk i seen s) := by
  unfold recoveryOk
  split
  · split
    · unfold recovered
      refine .trans ?_ (EngineFrame.event (.trans (.trans (.trans (postNotice_frame _ _)
        (releaseSegment_frame _ _)) (examine_frame _)) (opportunity_frame _ _)))
      exact putSeg_event s i _ rfl
    · exact EventFrame.refl s
  · exact EventFrame.refl s

theorem holdSegment_frame (i : SegId) (s : State) : EngineFrame s (holdSegment i s) :=
  forSurvey_frame _ (fun n s => if_frame (holdEntry_frame n s)) s

theorem recoveryFails_frame (i : SegId) (t : FailedRecovery) (s : State) :
    EventFrame s (recoveryFails i t s) := by
  unfold recoveryFails
  split
  · split
    · refine .trans ?_ (EngineFrame.event (.trans (.trans (.trans (endEach_frame _ _ _)
        (holdSegment_frame _ _)) (postNotice_frame _ _)) (examine_frame _)))
      exact putSeg_event s i _ rfl
    · exact EventFrame.refl s
  · exact EventFrame.refl s

/-- R27, R34, R43, R141, R183, R184: the events of slots, contexts, entries and buses. -/
theorem effect_event {c : Instr} (h : ofSlotOrBus c) (s : State) : EventFrame s (effect c s) := by
  cases c <;> first | exact h.elim | skip
  case backoffExpiry k => exact (expireBackoff_frame k s).event
  case queuedDeadlineExpiry tag => exact (expireQueued_frame tag s).event
  case contextDeadlinePasses c => exact (passDeadline_frame c s).event
  case surveyFallsDue n => exact (fallDue_frame n s).event
  case busStartSeen i => exact (seeStart_frame i s).trans (putBusFree_frame i _ _)
  case busFreeDetected i => exact busFreed_frame i s
  case busyLimitExpiry i => exact busyLimit_frame i s
  case stretchLimitExpiry i t l => exact stretchLimit_frame i t l s
  case stopAtByteBoundary i t => exact stopAtBoundary_frame i t s
  case transactionEnd i t l => exact transactionEnds_frame i t l s
  case alertAsserted i => exact alertAsserts_frame i s
  case alertReleased i => exact alertReleases_frame i s
  case recoverySucceeds i seen => exact recoveryOk_frame i seen s
  case recoveryFails i t => exact recoveryFails_frame i t s

/-! ### The six commands that configure, accept or reset -/

/-- What a command changes of what `CommandFrame` lists. -/
inductive Changes (s : State) : Instr → State → Prop
  /-- Nothing. -/
  | none (c) : Changes s c s
  /-- R4: MAP_SET binds a FREE entry to an address that is not taken. -/
  | bind (lt b) : mapSetArgs? s = some (lt, b) → mapSetCheck s lt b = .done →
      Changes s .mapSet (s.putEntry lt ⟨some b, 0, 0⟩)
  /-- R74: SEGMENT_CONFIG sets a DISABLED segment whose ALERT_ADDRESS is not bound. -/
  | config (i g) : segConfigArgs? s = some (i, g) → (s.seg i).state = .disabled →
      addressBound s i g.alertAddress = false →
      Changes s .segmentConfig (s.putSeg i { s.seg i with config := g })
  /-- R149: SURVEY_SET configures an entry. -/
  | survey (n g) : Changes s .surveySet (setSurvey n g s)
  /-- R33: an accepted request joins the RQ. -/
  | accept (r) : r.tag ∉ heldTags s → s.rq.length < 32 → Changes s .submit (acceptRequest r s)
  /-- R185: a device reset. -/
  | reset (c) : c = .softReset ∨ c = .deviceReset → Changes s c (deviceReset s)

/-- A command makes `t` of `s`: with the port written, one of the changes, and a frame. -/
def Makes (c : Instr) (s t : State) : Prop :=
  ∃ p u, Changes { s with port := p } c u ∧ CommandFrame u t

theorem CommandFrame.makes {c : Instr} {s t : State} (h : CommandFrame s t) : Makes c s t :=
  ⟨s.port, s, .none c, h⟩

theorem Changes.makes {c : Instr} {s u t : State} (h : Changes s c u) (k : CommandFrame u t) :
    Makes c s t := ⟨s.port, u, h, k⟩

/-- The port is no part of it. -/
theorem Makes.ofPort {c : Instr} {s t : State} {p : HostPort} (h : Makes c { s with port := p } t) :
    Makes c s t :=
  have ⟨q, u, change, frame⟩ := h
  ⟨q, u, change, frame⟩

/-- R179: an action not at hand changes nothing, and one at hand is taken. -/
theorem takeAction_makes {c : Instr} {a : Action} {f : State → State} (h : ∀ s, Makes c s (f s))
    (s : State) : Makes c s (takeAction a f s) := by
  unfold takeAction
  split
  · exact (CommandFrame.refl s).makes
  · split
    · exact (h _).ofPort
    · exact (CommandFrame.refl s).makes

theorem takeCommand_makes {c : Instr} {code : Byte → Bool} {f : State → State}
    (h : ∀ s, Makes c s (f s)) (s : State) : Makes c s (takeCommand code f s) := by
  unfold takeCommand
  split
  · exact takeAction_makes h s
  · exact (CommandFrame.refl s).makes

theorem takeAction_frame {c : Instr} {a : Action} {f : State → State} (h : ∀ s, CommandFrame s (f s))
    (s : State) : Makes c s (takeAction a f s) := takeAction_makes (fun s => (h s).makes) s

theorem takeCommand_frame {c : Instr} {code : Byte → Bool} {f : State → State}
    (h : ∀ s, CommandFrame s (f s)) (s : State) : Makes c s (takeCommand code f s) :=
  takeCommand_makes (fun s => (h s).makes) s

theorem mapSet_makes (s : State) : Makes .mapSet s (mapSet s) := by
  unfold mapSet
  split
  · exact (answer_frame _ s).makes
  · next args =>
    split
    · next check =>
      exact (Changes.bind _ _ args check).makes ((examine_frame _).command.trans (answer_frame _ _))
    · exact (answer_frame _ s).makes

theorem segState_isDisabled {s : State} {i : SegId} :
    (s.segState i).isDisabled = true ↔ (s.seg i).state = .disabled := by
  unfold State.segState
  cases (s.seg i).state <;> simp [SegState.isDisabled]

theorem segmentConfig_makes (s : State) : Makes .segmentConfig s (segmentConfig s) := by
  unfold segmentConfig
  split
  · exact (answer_frame _ s).makes
  · next args =>
    split
    · exact (answer_frame _ s).makes
    · next off =>
      split
      · exact (answer_frame _ s).makes
      · next unbound =>
        exact (Changes.config _ _ args (segState_isDisabled.1 (by simpa using off))
          (by simpa using unbound)).makes (answer_frame _ _)

theorem surveySet_makes (s : State) : Makes .surveySet s (surveySet s) := by
  unfold surveySet
  split
  · exact (answer_frame _ s).makes
  · split
    · exact (answer_frame _ s).makes
    · split
      · exact (answer_frame _ s).makes
      · exact (Changes.survey _ _).makes (answer_frame _ _)

/-- R31, R32: what is accepted carries no held tag, and finds room in the RQ. -/
theorem requestCheck_accepted {s : State} {r : Request} (h : requestCheck s r = .accepted) :
    r.tag ∉ heldTags s ∧ s.rq.length < 32 := by
  unfold requestCheck at h
  split at h
  · cases h
  · split at h
    · cases h
    · next free =>
      split at h
      · cases h
      · next room => exact ⟨free, by simpa [Config.rqCapacity] using room⟩

theorem submitCheck_accepted {s : State} {r : Request} (h : submitCheck s = .accepted)
    (hr : stagedRequest? s.port = some r) : r.tag ∉ heldTags s ∧ s.rq.length < 32 := by
  unfold submitCheck at h
  rw [hr] at h
  dsimp only at h
  split at h
  · cases h
  · split at h
    · cases h
    · exact requestCheck_accepted h

theorem submission_makes (s : State) : Makes .submit s (submission s) := by
  unfold submission
  split
  · next r check staged =>
    obtain ⟨free, room⟩ := submitCheck_accepted check staged
    exact (Changes.accept r free room).makes ((port_frame _ _).trans (examine_frame _).command)
  · exact (port_frame s _).makes

/-- What a command can do: one of the changes, and for the rest the frame. -/
theorem effect_makes (c : Instr) (s : State) : Makes c s (effect c s) := by
  cases c
  case frameStart header => exact (startFrame_frame header s).makes
  case frameEnd midByte => exact (endFrame_frame midByte s).makes
  case windowWrite v | cqThresholdWrite v | coalesceTimeWrite v | enablesWrite v =>
    exact (writeByte_frame _ v s).makes
  case timeCapture a | cqHeadCapture a | nqHeadCapture a | mirrorSnapshot a =>
    exact (captureAt_frame _ _ a s).makes
  case softReset =>
    exact takeAction_makes (fun s => (Changes.reset _ (.inl rfl)).makes (CommandFrame.refl _)) s
  case deviceReset =>
    show Makes _ s (if _ then _ else _)
    split
    · exact (Changes.reset _ (.inr rfl)).makes (port_frame _ _)
    · exact (CommandFrame.refl s).makes
  case resetRelease => exact (port_frame s _).makes
  case engineReset => exact takeAction_frame engineReset_command s
  case pause => exact takeAction_frame (paused_frame · true) s
  case resume => exact takeAction_frame resumeDispatcher_frame s
  case clearRqSpace => exact takeAction_frame (f := clearRqSpace) (fun s => irq_frame s _) s
  case clearHostMisuse => exact takeAction_frame (f := clearHostMisuse) (fun s => irq_frame s _) s
  case submit => exact takeAction_makes submission_makes s
  case cqPop => exact takeAction_frame popCq_frame s
  case nqPop => exact takeAction_frame popNq_frame s
  case mapSet => exact takeCommand_makes mapSet_makes s
  case mapRetire => exact takeCommand_frame mapRetire_frame s
  case mapReinstate => exact takeCommand_frame mapReinstate_frame s
  case mapRead => exact takeCommand_frame mapRead_frame s
  case groupSet => exact takeCommand_frame groupSet_frame s
  case groupRead => exact takeCommand_frame groupRead_frame s
  case segmentConfig => exact takeCommand_makes segmentConfig_makes s
  case segmentEnable => exact takeCommand_frame segmentEnable_frame s
  case segmentDisable => exact takeCommand_frame segmentDisable_frame s
  case segmentClear => exact takeCommand_frame segmentClear_frame s
  case alertResume => exact takeCommand_frame alertResume_frame s
  case surveySet => exact takeCommand_makes surveySet_makes s
  case surveyStart => exact takeCommand_frame surveyStart_frame s
  case surveyStop => exact takeCommand_frame surveyStop_frame s
  case surveyRead => exact takeCommand_frame surveyRead_frame s
  case cancel => exact takeCommand_frame cancel_frame s
  case unknownCommand => exact takeCommand_frame (answer_frame _) s
  case tick l0 l1 l2 l3 => exact (tick_frame l0 l1 l2 l3 s).makes
  case timeStep => exact (stepTime_frame s).makes
  all_goals exact (effect_event (by exact True.intro) s).toCommandFrame.makes

/-- The next state of a command: one of the changes, and for the rest the frame. -/
theorem exec_makes {c : Instr} {s t : State} (h : exec c s = .next t) : Makes c s t := by
  obtain ⟨p, u, change, frame⟩ := effect_makes c s
  rw [exec_next_iff.1 h]
  exact ⟨p, u, change, frame.trans (irq_frame _ _)⟩

/-! ### Steps -/

theorem step_pending {s : State} {c : Instr} {rest : List Instr} (h : s.pending = c :: rest) :
    step s = exec c { s with pending := rest } := by
  unfold step
  rw [h]

theorem step_idle {s : State} (h : s.pending = []) : step s = .next s := by
  unfold step
  rw [h]

/-- A law of the part that does not read the queue of commands is kept by every step if it is kept by every
command. -/
theorem step_keeps {law : State → Prop} (queue : ∀ s l, law s → law { s with pending := l })
    (command : ∀ c s t, law s → exec c s = .next t → law t) {s t : State} (hs : law s)
    (h : step s = .next t) : law t := by
  cases hp : s.pending with
  | nil =>
    rw [step_idle hp, Host.Outcome.next.injEq] at h
    exact h ▸ hs
  | cons c rest =>
    rw [step_pending hp] at h
    exact command c _ t (queue s rest hs) h

/-- Settles O1. -/
theorem stepTakesFrontCommand : Obligations.StepTakesFrontCommand :=
  ⟨fun _ _ _ => step_pending rfl, fun _ => step_idle⟩

/-- No change touches the queue of commands. -/
theorem Changes.pending {c : Instr} {s u : State} (h : Changes s c u) : u.pending = s.pending := by
  cases h <;> rfl

/-- Settles O2. -/
theorem commandsLeaveTheQueue : Obligations.CommandsLeaveTheQueue := by
  intro c s
  have next : exec c s = .next (judgeIrq (effect c s)) := exec_next_iff.2 rfl
  obtain ⟨p, u, change, frame⟩ := exec_makes next
  exact ⟨_, next, frame.pending.trans change.pending⟩

/-! ### The capacity law -/

theorem CommandFrame.capacity {s t : State} (h : CommandFrame s t) (hs : CapacityLaw s) :
    CapacityLaw t := by
  obtain ⟨rq, cq, nq⟩ := hs
  have := h.rqLength
  have := h.cqLength
  have := h.nqLength
  exact ⟨by omega, by omega, by omega⟩

theorem Changes.capacity {c : Instr} {s u : State} (h : Changes s c u) (hs : CapacityLaw s) :
    CapacityLaw u := by
  cases h with
  | none | bind | config | survey => exact hs
  | accept r _ room =>
    obtain ⟨-, cq, nq⟩ := hs
    exact ⟨by simpa [acceptRequest] using room, cq, nq⟩
  | reset => exact ⟨Nat.zero_le _, Nat.zero_le _, Nat.zero_le _⟩

/-- Settles O4: a request is accepted into an RQ with room, and every other command keeps to the frame. -/
theorem capacityLawKept : Obligations.CapacityLawKept := fun _ _ hs =>
  step_keeps (fun _ _ h => h) (fun _ _ _ hs next =>
    have ⟨_, _, change, frame⟩ := exec_makes next
    frame.capacity (change.capacity hs)) hs

/-! ### The tag law -/

theorem CommandFrame.tagLaw {s t : State} (h : CommandFrame s t) (hs : TagLaw s) : TagLaw t := by
  obtain ⟨l, perm, sub⟩ := h.tags
  exact perm.nodup_iff.1 (sub.nodup hs)

/-- R33: the tags held once a request has joined the RQ. -/
theorem heldTags_acceptRequest (r : Request) (s : State) :
    (heldTags (acceptRequest r s)).Perm (r.tag :: heldTags s) := by
  simp only [heldTags, acceptRequest, newEntry, List.map_append, List.map_cons, List.map_nil,
    List.append_assoc, List.singleton_append]
  exact List.perm_middle

theorem heldTags_deviceReset (s : State) : heldTags (deviceReset s) = [] := by
  simp [heldTags, deviceReset, State.reset]

theorem Changes.tagLaw {c : Instr} {s u : State} (h : Changes s c u) (hs : TagLaw s) : TagLaw u := by
  cases h with
  | none | bind | config | survey => exact hs
  | accept r free _ => exact (heldTags_acceptRequest r s).nodup_iff.2 (List.nodup_cons.2 ⟨free, hs⟩)
  | reset => unfold TagLaw; rw [heldTags_deviceReset]; exact List.nodup_nil

/-- Settles O5: a request is accepted with a tag that is not held, and no other command takes a tag. -/
theorem tagLawKept : Obligations.TagLawKept := fun _ _ hs =>
  step_keeps (fun _ _ h => h) (fun _ _ _ hs next =>
    have ⟨_, _, change, frame⟩ := exec_makes next
    frame.tagLaw (change.tagLaw hs)) hs

/-! ### The address laws -/

theorem CommandFrame.addressLaw {s t : State} (h : CommandFrame s t) (hs : AddressLaw s) :
    AddressLaw t := by
  obtain ⟨apart, clear⟩ := hs
  refine ⟨fun m n a b ha hb seg addr => ?_, fun n b hb => ?_⟩
  · obtain ⟨a', ha', sa, aa, -⟩ := h.binding m a ha
    obtain ⟨b', hb', sb, ab, -⟩ := h.binding n b hb
    exact apart m n a' b' ha' hb' (sa.trans (seg.trans sb.symm)) (aa.trans (addr.trans ab.symm))
  · obtain ⟨b', hb', sb, ab, -⟩ := h.binding n b hb
    rw [h.config, ← sb, ← ab]
    exact clear n b' hb'

theorem CommandFrame.rangeLaw {s t : State} (h : CommandFrame s t) (hs : AddressRangeLaw s) :
    AddressRangeLaw t := by
  obtain ⟨bound, alert⟩ := hs
  refine ⟨fun n b hb => ?_, fun i => by rw [h.config]; exact alert i⟩
  obtain ⟨b', hb', -, ab, -⟩ := h.binding n b hb
  rw [← ab]
  exact bound n b' hb'

/-- Conventions: a byte that is a bus address lies in the range. -/
theorem busAddrOf_range {v : Byte} {a : BusAddr} (h : busAddrOf? v = some a) : inBusRange a := by
  unfold busAddrOf? at h
  split at h
  · next range =>
    simp only [Config.busAddrLow, Config.busAddrHigh] at range
    cases h
    unfold inBusRange
    rw [BitVec.toNat_setWidth]
    omega
  · cases h

theorem mapSetArgs_range {s : State} {lt : LtId} {b : Binding} (h : mapSetArgs? s = some (lt, b)) :
    inBusRange b.address := by
  unfold mapSetArgs? at h
  split at h
  · next addr _ =>
    split at h <;> cases h
    exact busAddrOf_range addr
  · cases h

theorem segConfigArgs_range {s : State} {i : SegId} {g : SegConfig}
    (h : segConfigArgs? s = some (i, g)) : inBusRange g.alertAddress := by
  unfold segConfigArgs? at h
  split at h
  · next addr _ =>
    split at h <;> cases h
    exact busAddrOf_range addr
  · cases h

/-- R4 checks 2 and 4: what MAP_SET binds is no ALERT_ADDRESS, and no other entry holds it. -/
theorem mapSetCheck_done {s : State} {lt : LtId} {b : Binding} (h : mapSetCheck s lt b = .done) :
    b.address ≠ (s.seg b.segment).config.alertAddress ∧
      ∀ m x, m ≠ lt → (s.entry m).binding = some x → x.segment = b.segment → x.address ≠ b.address := by
  unfold mapSetCheck at h
  split at h
  · cases h
  · next clear =>
    split at h
    · cases h
    · split at h
      · cases h
      · next free =>
        refine ⟨clear, fun m x hm hx seg addr => free ?_⟩
        exact List.any_eq_true.2 ⟨m, List.mem_finRange m, by simp [hm, hx, seg, addr]⟩

/-- R74 check 3: no entry holds an address that is not bound. -/
theorem addressBound_false {s : State} {i : SegId} {a : BusAddr} (h : addressBound s i a = false) (n : LtId)
    (b : Binding) (hb : (s.entry n).binding = some b) (seg : b.segment = i) : b.address ≠ a := by
  intro addr
  have none : reverseLookup s i a = none := by simpa [addressBound] using h
  have := List.findSome?_eq_none_iff.1 none n (List.mem_finRange n)
  simp [hb, seg, addr] at this

theorem alertAddress_reset_range : inBusRange SegConfig.reset.alertAddress := ⟨by decide, by decide⟩

theorem Changes.addressLaw {c : Instr} {s u : State} (h : Changes s c u) (hs : AddressLaw s) :
    AddressLaw u := by
  obtain ⟨apart, clear⟩ := hs
  cases h with
  | none | survey | accept => exact ⟨apart, clear⟩
  | bind lt b args check =>
    obtain ⟨noAlert, free⟩ := mapSetCheck_done check
    have bound : ∀ n x, ((s.putEntry lt ⟨some b, 0, 0⟩).entry n).binding = some x →
        n = lt ∧ x = b ∨ n ≠ lt ∧ (s.entry n).binding = some x := by
      intro n x hx
      rw [State.entry_putEntry] at hx
      split at hx
      · next e => exact .inl ⟨e.symm, (Option.some.inj hx).symm⟩
      · next e => exact .inr ⟨fun h => e h.symm, hx⟩
    refine ⟨fun m n x y hx hy seg addr => ?_, fun n x hx => ?_⟩
    · rcases bound m x hx with ⟨rfl, rfl⟩ | ⟨hm, hx'⟩ <;> rcases bound n y hy with ⟨rfl, rfl⟩ | ⟨hn, hy'⟩
      · rfl
      · exact absurd addr.symm (free n y hn hy' seg.symm)
      · exact absurd addr (free m x hm hx' seg)
      · exact apart m n x y hx' hy' seg addr
    · rw [State.seg_putEntry_read]
      rcases bound n x hx with ⟨rfl, rfl⟩ | ⟨-, hx⟩
      · exact noAlert
      · exact clear n x hx
  | config i g args off unbound =>
    refine ⟨apart, fun n b hb => ?_⟩
    rw [State.seg_putSeg]
    split
    · next e => exact addressBound_false unbound n b hb e.symm
    · exact clear n b hb
  | reset =>
    refine ⟨fun m n a b ha => ?_, fun n b hb => ?_⟩
    · rw [entry_deviceReset] at ha; cases ha
    · rw [entry_deviceReset] at hb; cases hb

theorem Changes.rangeLaw {c : Instr} {s u : State} (h : Changes s c u) (hs : AddressRangeLaw s) :
    AddressRangeLaw u := by
  obtain ⟨bound, alert⟩ := hs
  cases h with
  | none | survey | accept => exact ⟨bound, alert⟩
  | bind lt b args check =>
    refine ⟨fun n x hx => ?_, alert⟩
    rw [State.entry_putEntry] at hx
    split at hx
    · cases hx; exact mapSetArgs_range args
    · exact bound n x hx
  | config i g args off unbound =>
    refine ⟨bound, fun j => ?_⟩
    rw [State.seg_putSeg]
    split
    · exact segConfigArgs_range args
    · exact alert j
  | reset =>
    refine ⟨fun n b hb => ?_, fun i => ?_⟩
    · rw [entry_deviceReset] at hb; cases hb
    · rw [seg_deviceReset]; exact alertAddress_reset_range

/-- Settles O6: MAP_SET and SEGMENT_CONFIG check the addresses they write, and no other command writes one. -/
theorem addressLawKept : Obligations.AddressLawKept := fun _ _ hs hr =>
  step_keeps (law := fun s => AddressLaw s ∧ AddressRangeLaw s) (fun _ _ h => h)
    (fun _ _ _ ⟨hs, hr⟩ next =>
      have ⟨_, _, change, frame⟩ := exec_makes next
      ⟨frame.addressLaw (change.addressLaw hs), frame.rangeLaw (change.rangeLaw hr)⟩) ⟨hs, hr⟩

/-- Settles O7. -/
theorem resetMeetsTheLaws : Obligations.ResetMeetsTheLaws := by
  refine ⟨⟨Nat.zero_le _, Nat.zero_le _, Nat.zero_le _⟩, ?_, ?_, ⟨fun n b hb => ?_, fun i => ?_⟩, rfl⟩
  · have tags : heldTags State.reset = [] := by simp [heldTags, State.reset]
    rw [TagLaw, tags]
    exact List.nodup_nil
  · refine ⟨fun m n a b ha => ?_, fun n b hb => ?_⟩
    · rw [State.entry, State.reset, look_replicate] at ha; cases ha
    · rw [State.entry, State.reset, look_replicate] at hb; cases hb
  · rw [State.entry, State.reset, look_replicate] at hb; cases hb
  · rw [State.seg, State.reset, look_replicate]; exact alertAddress_reset_range

/-! ### Configuration and the host's side -/

theorem Changes.binding {c : Instr} {s u : State} (h : Changes s c u) (hc : c ≠ .mapSet) (lt : LtId) :
    BindingKept (s.entry lt).binding (u.entry lt).binding := by
  cases h with
  | none | config | survey | accept => exact BindingKept.refl _
  | bind => exact absurd rfl hc
  | reset => rw [entry_deviceReset]; exact BindingKept.gone _

theorem Changes.segConfig {c : Instr} {s u : State} (h : Changes s c u) (i : SegId) :
    (u.seg i).config = (s.seg i).config ∨ (c = .segmentConfig ∧ (s.seg i).state = .disabled) ∨
      ((c = .softReset ∨ c = .deviceReset) ∧ (u.seg i).config = SegConfig.reset) := by
  cases h with
  | none | bind | survey | accept => exact .inl rfl
  | config j g args off unbound =>
    rw [State.seg_putSeg]
    split
    · next e => subst e; exact .inr (.inl ⟨rfl, off⟩)
    · exact .inl rfl
  | reset _ hc => rw [seg_deviceReset]; exact .inr (.inr ⟨hc, rfl⟩)

theorem Changes.surveyConf {c : Instr} {s u : State} (h : Changes s c u) (h1 : c ≠ .surveySet)
    (h2 : c ≠ .softReset) (h3 : c ≠ .deviceReset) (n : SvId) : u.sv n = s.sv n := by
  cases h with
  | none | bind | config | accept => rfl
  | survey => exact absurd rfl h1
  | reset _ hc => exact (hc.elim h2 h3).elim

/-- Settles O8. -/
theorem configurationKept : Obligations.ConfigurationKept := by
  refine ⟨fun c s t hc next lt => ?_, fun c s t i next moved => ?_, fun c s t n next h1 h2 h3 => ?_⟩
  all_goals obtain ⟨p, u, change, frame⟩ := exec_makes next
  · exact (change.binding hc lt).trans (frame.binding lt)
  · rw [frame.config] at moved ⊢
    exact (change.segConfig i).resolve_left moved
  · rw [frame.survey, change.surveyConf h1 h2 h3]
    rfl

/-- Settles O9. -/
theorem eventsLeaveTheHostSide : Obligations.EventsLeaveTheHostSide := by
  intro c s t hc next
  rw [exec_next_iff.1 next]
  have frame := effect_event hc s
  exact ⟨frame.port, frame.timebase, frame.groups, frame.paused, frame.enables, frame.hostMisuse,
    frame.threshold, frame.coalesce, frame.rqLength⟩

/-! ### IRQ_N -/

/-- Two bytes have no bit in common. -/
theorem and_eq_zero_iff (x y : Byte) : (x &&& y == 0) = true ↔ ∀ n : Nat, n < 8 →
    ¬ (x.getLsbD n = true ∧ y.getLsbD n = true) := by
  rw [beq_iff_eq]
  refine ⟨fun h n _ ⟨hx, hy⟩ => ?_, fun h => BitVec.eq_of_getLsbD_eq fun n hn => ?_⟩
  · have := congrArg (BitVec.getLsbD · n) h
    simp [hx, hy] at this
  · simpa using h n hn

/-- R183: the bits of CAUSES. -/
theorem causes_getLsbD (s : State) (n : Nat) : (causes s).getLsbD n = true ↔
    n = 0 ∧ cqReady s.completion = true ∨ n = 1 ∧ nqReady s.notices = true ∨
      n = 2 ∧ s.irq.rqSpace = true ∨ n = 3 ∧ s.irq.hostMisuse = true := by
  have bits : ∀ a b c d : Bool, ∀ n : Fin 8, (((if a then 1 else 0) ||| (if b then 2 else 0) |||
      (if c then 4 else 0) ||| (if d then 8 else 0) : Byte).getLsbD n.val = true ↔
      n.val = 0 ∧ a = true ∨ n.val = 1 ∧ b = true ∨ n.val = 2 ∧ c = true ∨ n.val = 3 ∧ d = true) := by
    decide
  by_cases hn : n < 8
  · exact bits _ _ _ _ ⟨n, hn⟩
  · rw [BitVec.getLsbD_of_ge _ _ (by omega)]
    constructor
    · exact nofun
    · omega

/-- R143: CQ_READY as the statements say it. -/
theorem cqReady_iff (u : CompletionUnit) : cqReady u = true ↔ u.ready := by
  unfold cqReady CompletionUnit.ready
  cases u.cq <;> simp

theorem nqReady_iff (u : NoticeUnit) : nqReady u = true ↔ u.nq ≠ [] := by
  unfold nqReady
  cases u.nq <;> simp

/-- R183: IRQ_N is low while some cause is 1 with its enable 1. -/
theorem irqLevel_low_iff (s : State) : irqLevel s = false ↔
    ∃ n : Nat, (causes s).getLsbD n = true ∧ s.irq.enables.getLsbD n = true := by
  rw [← Bool.not_eq_true, irqLevel, and_eq_zero_iff]
  push Not
  refine exists_congr fun n => ⟨fun h => h.2, fun h => ⟨?_, h⟩⟩
  exact Nat.lt_of_not_le fun hn => by simp [BitVec.getLsbD_of_ge _ _ hn] at h

/-- Settles O3: IRQ_N is judged on the state the command leaves. -/
theorem irqFollowsCauses : Obligations.IrqFollowsCauses := by
  intro c s t next
  rw [exec_next_iff.1 next]
  generalize effect c s = u
  rw [judgeIrq_irqN, irqLevel_low_iff]
  simp only [causes_getLsbD, cqReady_iff, nqReady_iff, CompletionUnit.ready]
  constructor
  · rintro ⟨n, ⟨rfl, ready⟩ | ⟨rfl, ready⟩ | ⟨rfl, ready⟩ | ⟨rfl, ready⟩, enabled⟩
    · exact .inl ⟨enabled, ready⟩
    · exact .inr (.inl ⟨enabled, ready⟩)
    · exact .inr (.inr (.inl ⟨enabled, ready⟩))
    · exact .inr (.inr (.inr ⟨enabled, ready⟩))
  · rintro (⟨enabled, ready⟩ | ⟨enabled, ready⟩ | ⟨enabled, ready⟩ | ⟨enabled, ready⟩)
    · exact ⟨0, .inl ⟨rfl, ready⟩, enabled⟩
    · exact ⟨1, .inr (.inl ⟨rfl, ready⟩), enabled⟩
    · exact ⟨2, .inr (.inr (.inl ⟨rfl, ready⟩)), enabled⟩
    · exact ⟨3, .inr (.inr (.inr ⟨rfl, ready⟩)), enabled⟩

end Sys2Proof.Machine
end

section
/-! Frames of the host port and the bytes a write frame lands (R177 to R180): one equation for `landByte` per
region of the window, and what each write and each capture makes of the port. -/

namespace Sys2Proof.Machine

/-! ### The beginning and the end of a frame -/

/-- R177: the direction is the highest bit of the first byte. -/
theorem getLsbD_seven (d : Byte) : d.getLsbD 7 = decide (128 ≤ d.toNat) := by
  have msb := BitVec.msb_eq_decide d
  rwa [BitVec.msb_eq_getLsbD_last] at msb

/-- R177: the address of a frame, the low two bits of the first byte above the second. -/
theorem frameAddr_toNat (h l : Byte) : (h.setWidth 2 ++ l : WinAddr).toNat = h.toNat % 4 * 256 + l.toNat := by
  rw [BitVec.toNat_append, BitVec.toNat_setWidth, Nat.shiftLeft_eq]
  rw [Nat.mul_comm, ← Nat.two_pow_add_eq_or_of_lt l.isLt]

/-- R177: FRAME_START with CS_N and RESET_N high. -/
theorem startFrame_high {s : State} (header : List Byte) (cs : s.port.csN = true)
    (reset : s.port.resetN = true) : startFrame header s = { s with port := { s.port with
      csN := false, frame := frameAfter header, marks := [], timeCapture := none, cqCapture := none
      nqCapture := none, snapshots := Vector.replicate 32 none } } := by
  simp [startFrame, HostPort.clearFrame, cs, reset]

/-- Settles O10: the frame state is `frameAfter` of the header. -/
theorem frameStartTakesHeader : Obligations.FrameStartTakesHeader := by
  intro s cs reset header
  refine ⟨frameAfter header, congrArg finish (startFrame_high header cs reset), ?_, ?_, ?_, ?_⟩
  · rintro rfl
    rfl
  · rintro d rfl
    rw [← getLsbD_seven]
    rfl
  · rintro d h rfl
    exact ⟨h.setWidth 2, BitVec.toNat_setWidth _ _, by rw [← getLsbD_seven]; rfl⟩
  · rintro d h l rfl
    exact ⟨h.setWidth 2 ++ l, frameAddr_toNat h l, by rw [← getLsbD_seven]; rfl⟩

theorem inFrame_eq (f : FrameState) : f.inFrame = (f != .noFrame) := by
  cases f <;> rfl

/-- R179, R180: FRAME_END with CS_N low. -/
theorem endFrame_low {s : State} (midByte : Bool) (cs : s.port.csN = false) :
    endFrame midByte s = { s with
      port := { s.port with
        csN := true, frame := .noFrame, marks := [], timeCapture := none, cqCapture := none
        nqCapture := none, snapshots := Vector.replicate 32 none
        actions := s.port.actions ++ ordered s.port.marks }
      irq := { s.irq with
        hostMisuse := s.irq.hostMisuse || (midByte && s.port.frame != .noFrame) } } := by
  unfold endFrame
  rw [cs, ← inFrame_eq]
  cases midByte <;> cases s.port.frame.inFrame <;> simp [HostPort.clearFrame, latchMisuse]

/-- R179: ordering a set of marks takes each mark once. -/
theorem mem_ordered (a : Action) (l : List Action) : a ∈ ordered l ↔ a ∈ l := by
  have every : a ∈ actionOrder := by cases a <;> decide
  simp [ordered, every]

/-- Settles O11: `ordered` keeps the order of the window addresses. -/
theorem frameEndHandsOutMarks : Obligations.FrameEndHandsOutMarks := fun s midByte cs =>
  ⟨ordered s.port.marks, fun a => mem_ordered a _, List.filter_sublist,
    congrArg finish (endFrame_low midByte cs)⟩

/-! ### What lands where -/

/-- The regions of the window a data byte can land in. -/
theorem region_cases (a : WinAddr) : a.toNat = 0x002 ∨ a.toNat = 0x010 ∨ a.toNat = 0x011 ∨
    a.toNat = 0x012 ∨ a.toNat = 0x013 ∨ (0x053 ≤ a.toNat ∧ a.toNat ≤ 0x07C) ∨ a.toNat = 0x07D ∨
    a.toNat = 0x07E ∨ a.toNat = 0x0DF ∨ a.toNat = 0x0FF ∨ a.toNat = 0x100 ∨
    (0x101 ≤ a.toNat ∧ a.toNat ≤ 0x13C) ∨ a.toNat = 0x13F ∨ ¬ writable a := by
  unfold writable
  omega

section
variable {a : WinAddr} (v : Byte) (s : State)

theorem landByte_globalControl (h : a.toNat = 0x002) : landByte a v s =
    markIf (v.getLsbD 3) .resume (markIf (v.getLsbD 2) .pause
      (markIf (v.getLsbD 1) .engineReset (markIf (v.getLsbD 0) .softReset s))) := by
  simp [landByte, h]

theorem landByte_causes (h : a.toNat = 0x010) : landByte a v s =
    markIf (v.getLsbD 3) .clearHostMisuse (markIf (v.getLsbD 2) .clearRqSpace s) := by
  simp [landByte, h]

theorem landByte_enables (h : a.toNat = 0x011) : landByte a v s = landEnables v s := by
  simp [landByte, h]

theorem landByte_threshold (h : a.toNat = 0x012) : landByte a v s = landThreshold v s := by
  simp [landByte, h]

theorem landByte_coalesce (h : a.toNat = 0x013) : landByte a v s = landCoalesce v s := by
  simp [landByte, h]

theorem landByte_staging (h : 0x053 ≤ a.toNat ∧ a.toNat ≤ 0x07C) : landByte a v s =
    { s with port := { s.port with staging := put s.port.staging ⟨a.toNat - 0x053, by omega⟩ v } } := by
  unfold landByte
  simp (disch := omega) only [if_neg, dif_pos]

theorem landByte_submitCount (h : a.toNat = 0x07D) : landByte a v s = s := by
  simp [landByte, h]

theorem landByte_submit (h : a.toNat = 0x07E) : landByte a v s =
    markIf (v == Config.trigger) .submit { s with port := { s.port with submitByte := v } } := by
  simp [landByte, h]

theorem landByte_cqPop (h : a.toNat = 0x0DF) : landByte a v s = markIf (v == Config.trigger) .cqPop s := by
  simp [landByte, h]

theorem landByte_nqPop (h : a.toNat = 0x0FF) : landByte a v s = markIf (v == Config.trigger) .nqPop s := by
  simp [landByte, h]

theorem landByte_commandCode (h : a.toNat = 0x100) : landByte a v s =
    { s with port := { s.port with commandCode := v } } := by
  simp [landByte, h]

theorem landByte_args (h : 0x101 ≤ a.toNat ∧ a.toNat ≤ 0x13C) : landByte a v s =
    { s with port := { s.port with args := put s.port.args ⟨a.toNat - 0x101, by omega⟩ v } } := by
  unfold landByte
  simp (disch := omega) only [if_neg, dif_neg, dif_pos]

theorem landByte_execute (h : a.toNat = 0x13F) : landByte a v s =
    markIf (v == Config.trigger) .execute s := by
  simp [landByte, h]

theorem landByte_unwritable (h : ¬ writable a) : landByte a v s = latchMisuse s := by
  unfold writable at h
  unfold landByte
  simp (disch := omega) only [if_neg, dif_neg]

end

/-- A byte of a write frame lands at the frame's address, and the frame moves on. -/
theorem writeByte_at {here : WinAddr → Bool} {s : State} {a : WinAddr} (v : Byte) (h : s.writingAt a)
    (ha : here a = true) : writeByte here v s =
      { landByte a v s with port := (landByte a v s).port.moveOn false a } := by
  obtain ⟨first, h⟩ := h
  simp [writeByte, HostPort.writeAddr?, h, ha]

theorem exec_windowWrite_at {s : State} {a : WinAddr} (v : Byte) (h : s.writingAt a) :
    exec (.windowWrite v) s =
      finish { landByte a v s with port := (landByte a v s).port.moveOn false a } :=
  congrArg finish (writeByte_at v h rfl)

/-! ### Marks -/

/-- R179: a mark writes the set of marks alone. -/
theorem markIf_eq (b : Bool) (x : Action) (s : State) :
    ∃ l, markIf b x s = { s with port := { s.port with marks := l } } := by
  unfold markIf markAction
  split
  · split
    · exact ⟨s.port.marks, rfl⟩
    · exact ⟨_, rfl⟩
  · exact ⟨s.port.marks, rfl⟩

theorem mem_markIf {b : Bool} {x y : Action} {s : State} :
    y ∈ (markIf b x s).port.marks ↔ y ∈ s.port.marks ∨ b = true ∧ y = x := by
  unfold markIf markAction
  by_cases hb : b = true
  · by_cases hx : x ∈ s.port.marks
    · simp only [hb, hx, if_true, true_and]
      exact ⟨.inl, fun h => h.elim id fun e => e ▸ hx⟩
    · simp [hb, hx]
  · simp [hb]

theorem nodup_markIf {b : Bool} {x : Action} {s : State} (h : s.port.marks.Nodup) :
    (markIf b x s).port.marks.Nodup := by
  unfold markIf markAction
  split
  · split
    · exact h
    · next hx => exact List.nodup_append.2 ⟨h, by simp, by rintro y hy z hz rfl; simp_all⟩
  · exact h

/-- R178, R179: a state whose marks are those of `s` and those a byte at an address marks, with the actions
handed out as in `s`. -/
def MarksAdded (s t : State) (a : WinAddr) (v : Byte) : Prop :=
  (∀ x, x ∈ t.port.marks ↔ x ∈ s.port.marks ∨ marks a v x) ∧
    (s.port.marks.Nodup → t.port.marks.Nodup) ∧ t.port.actions = s.port.actions

/-- A byte that marks nothing. -/
theorem MarksAdded.none {s t : State} {a : WinAddr} {v : Byte} (hm : t.port.marks = s.port.marks)
    (ha : t.port.actions = s.port.actions) (h : ∀ x, ¬ marks a v x) : MarksAdded s t a v :=
  ⟨fun x => by simp [hm, h x], fun h => hm ▸ h, ha⟩

/-- A byte that marks one action. -/
theorem MarksAdded.one {s u : State} {a : WinAddr} {v : Byte} {b : Bool} {x : Action}
    (hm : u.port.marks = s.port.marks) (ha : u.port.actions = s.port.actions)
    (h : ∀ y, marks a v y ↔ b = true ∧ y = x) : MarksAdded s (markIf b x u) a v := by
  refine ⟨fun y => by rw [mem_markIf, hm, h], fun hn => nodup_markIf (hm ▸ hn), ?_⟩
  obtain ⟨l, e⟩ := markIf_eq b x u
  rw [e]
  exact ha

/-- R178, R179: the marks after a byte has landed, region by region. -/
theorem landByte_marks (a : WinAddr) (v : Byte) (s : State) : MarksAdded s (landByte a v s) a v := by
  have trigger : (v == Config.trigger) = true ↔ v = 0x01 := by rw [beq_iff_eq]; rfl
  have silent (h : ¬ writable a ∨ (0x011 ≤ a.toNat ∧ a.toNat ≤ 0x013) ∨
      (0x053 ≤ a.toNat ∧ a.toNat ≤ 0x07D) ∨ (0x100 ≤ a.toNat ∧ a.toNat ≤ 0x13C)) (x : Action) :
      ¬ marks a v x := by
    unfold writable at h
    cases x <;> (dsimp only [marks]; omega)
  rcases region_cases a with h | h | h | h | h | h | h | h | h | h | h | h | h | h
  · rw [landByte_globalControl v s h]
    refine ⟨fun x => ?_, fun hn => nodup_markIf (nodup_markIf (nodup_markIf (nodup_markIf hn))), ?_⟩
    · simp only [mem_markIf, or_assoc]
      refine or_congr_right ?_
      cases x <;> simp [marks, h]
    · obtain ⟨l0, e0⟩ := markIf_eq (v.getLsbD 0) .softReset s
      obtain ⟨l1, e1⟩ := markIf_eq (v.getLsbD 1) .engineReset (markIf (v.getLsbD 0) .softReset s)
      rw [e0] at e1
      rw [e0, e1]
      obtain ⟨l2, e2⟩ := markIf_eq (v.getLsbD 2) .pause { s with port := { s.port with marks := l1 } }
      rw [e2]
      obtain ⟨l3, e3⟩ := markIf_eq (v.getLsbD 3) .resume { s with port := { s.port with marks := l2 } }
      rw [e3]
  · rw [landByte_causes v s h]
    refine ⟨fun x => ?_, fun hn => nodup_markIf (nodup_markIf hn), ?_⟩
    · simp only [mem_markIf, or_assoc]
      refine or_congr_right ?_
      cases x <;> simp [marks, h]
    · obtain ⟨l0, e0⟩ := markIf_eq (v.getLsbD 2) .clearRqSpace s
      rw [e0]
      obtain ⟨l1, e1⟩ := markIf_eq (v.getLsbD 3) .clearHostMisuse { s with port := { s.port with marks := l0 } }
      rw [e1]
  · rw [landByte_enables v s h]
    exact .none rfl rfl (silent (by omega))
  · rw [landByte_threshold v s h, landThreshold]
    split
    · exact .none rfl rfl (silent (by omega))
    · exact .none rfl rfl (silent (by omega))
  · rw [landByte_coalesce v s h]
    exact .none rfl rfl (silent (by omega))
  · rw [landByte_staging v s h]
    exact .none rfl rfl (silent (by omega))
  · rw [landByte_submitCount v s h]
    exact .none rfl rfl (silent (by omega))
  · rw [landByte_submit v s h]
    exact .one rfl rfl fun y => by cases y <;> simp [marks, h, trigger]
  · rw [landByte_cqPop v s h]
    exact .one rfl rfl fun y => by cases y <;> simp [marks, h, trigger]
  · rw [landByte_nqPop v s h]
    exact .one rfl rfl fun y => by cases y <;> simp [marks, h, trigger]
  · rw [landByte_commandCode v s h]
    exact .none rfl rfl (silent (by omega))
  · rw [landByte_args v s h]
    exact .none rfl rfl (silent (by omega))
  · rw [landByte_execute v s h]
    exact .one rfl rfl fun y => by cases y <;> simp [marks, h, trigger]
  · rw [landByte_unwritable v s h]
    exact .none rfl rfl (silent (.inl h))

/-- R179: at the action bytes the marks alone are written. -/
theorem landByte_action {a : WinAddr} (v : Byte) (s : State) (h : actionByte a) :
    ∃ l, landByte a v s = { s with port := { s.port with marks := l } } := by
  rcases h with rfl | rfl | rfl | rfl | rfl
  · rw [landByte_globalControl v s rfl]
    obtain ⟨l0, e0⟩ := markIf_eq (v.getLsbD 0) .softReset s
    obtain ⟨l1, e1⟩ := markIf_eq (v.getLsbD 1) .engineReset { s with port := { s.port with marks := l0 } }
    obtain ⟨l2, e2⟩ := markIf_eq (v.getLsbD 2) .pause { s with port := { s.port with marks := l1 } }
    obtain ⟨l3, e3⟩ := markIf_eq (v.getLsbD 3) .resume { s with port := { s.port with marks := l2 } }
    exact ⟨l3, by rw [e0, e1, e2, e3]⟩
  · rw [landByte_causes v s rfl]
    obtain ⟨l0, e0⟩ := markIf_eq (v.getLsbD 2) .clearRqSpace s
    obtain ⟨l1, e1⟩ := markIf_eq (v.getLsbD 3) .clearHostMisuse { s with port := { s.port with marks := l0 } }
    exact ⟨l1, by rw [e0, e1]⟩
  · rw [landByte_cqPop v s rfl]
    exact markIf_eq _ _ s
  · rw [landByte_nqPop v s rfl]
    exact markIf_eq _ _ s
  · rw [landByte_execute v s rfl]
    exact markIf_eq _ _ s

/-- Settles O14. -/
theorem writesMarkActions : Obligations.WritesMarkActions := by
  intro s a v h
  refine ⟨?_, fun ha => ?_, ?_, ?_, ?_, ?_⟩
  · obtain ⟨added, nodup, actions⟩ := landByte_marks a v s
    exact ⟨_, exec_windowWrite_at v h, added, nodup, actions⟩
  · obtain ⟨l, e⟩ := landByte_action v s ha
    exact ⟨l, by rw [exec_windowWrite_at v h, e]; rfl⟩
  · rintro rfl
    rw [exec_windowWrite_at v h, landByte_submitCount v s rfl]
    rfl
  all_goals
    rintro rfl
    rw [exec_windowWrite_at v h]
    exact congrArg finish (writeByte_at v h rfl).symm

/-- Settles O13. -/
theorem unwritableBytesLatchMisuse : Obligations.UnwritableBytesLatchMisuse := by
  intro s a v h ha
  rw [exec_windowWrite_at v h, landByte_unwritable v s ha]
  rfl

/-- Settles O15. -/
theorem settingBytesLand : Obligations.SettingBytesLand := by
  intro s v
  refine ⟨fun h lo hi => ?_, fun h out => ?_, fun h => ?_, fun h => ?_⟩
  · refine congrArg finish ((writeByte_at v h rfl).trans ?_)
    rw [landByte_threshold v s rfl, landThreshold, if_pos ⟨lo, hi⟩]
    rfl
  · refine congrArg finish ((writeByte_at v h rfl).trans ?_)
    rw [landByte_threshold v s rfl, landThreshold, if_neg (by omega)]
    rfl
  · refine congrArg finish ((writeByte_at v h rfl).trans ?_)
    rw [landByte_coalesce v s rfl]
    rfl
  · refine congrArg finish ((writeByte_at v h rfl).trans ?_)
    rw [landByte_enables v s rfl]
    rfl

/-! ### Plain bytes -/

/-- The registers of the port that the window shows. -/
structure HostPort.SameBut (p q : HostPort) (a : WinAddr) : Prop where
  staging : ∀ k : Fin 42, k.val + 0x053 ≠ a.toNat → look q.staging k = look p.staging k
  submitByte : a.toNat ≠ 0x07E → q.submitByte = p.submitByte
  commandCode : a.toNat ≠ 0x100 → q.commandCode = p.commandCode
  args : ∀ k : Fin 60, k.val + 0x101 ≠ a.toNat → look q.args k = look p.args k
  submitCount : q.submitCount = p.submitCount
  submitResult : q.submitResult = p.submitResult
  commandResult : q.commandResult = p.commandResult

/-- A table's list read at an index. -/
theorem getD_toList {n : Nat} (t : Vector Byte n) {k : Nat} (h : k < n) :
    t.toList.getD k 0 = look t ⟨k, h⟩ := by
  simp [List.getD_eq_getElem?_getD, look, h]

/-- The window reads the same in two states that differ in the port at `a` alone. -/
theorem windowByte_sameBut {s : State} {p : HostPort} {a b : WinAddr} (h : s.port.SameBut p a)
    (hb : b ≠ a) : ({ s with port := p } : State).windowByte b = s.windowByte b := by
  have hne : b.toNat ≠ a.toNat := fun e => hb (BitVec.eq_of_toNat_eq e)
  unfold State.windowByte
  iterate 10 refine ite_congr rfl (fun _ => rfl) fun _ => ?_ -- up to the counts
  refine ite_congr rfl (fun r => ?_) fun _ => ?_ -- the staging fields
  · rw [getD_toList _ (by omega), getD_toList _ (by omega)]
    exact h.staging _ (by dsimp only; omega)
  refine ite_congr rfl (fun _ => congrArg byteOf h.submitCount) fun _ => ?_
  refine ite_congr rfl (fun r => h.submitByte (by omega)) fun _ => ?_
  refine ite_congr rfl (fun _ => congrArg SubmitResult.code h.submitResult) fun _ => ?_
  iterate 2 refine ite_congr rfl (fun _ => rfl) fun _ => ?_ -- the queue heads
  refine ite_congr rfl (fun r => h.commandCode (by omega)) fun _ => ?_
  refine ite_congr rfl (fun r => ?_) fun _ => ?_ -- ARGUMENTS
  · rw [getD_toList _ (by omega), getD_toList _ (by omega)]
    exact h.args _ (by dsimp only; omega)
  exact ite_congr rfl (fun _ => congrArg CommandResult.code h.commandResult) fun _ => rfl

/-- TABLE 73: a staging field in the window. -/
theorem windowByte_staging (s : State) {a : WinAddr} (h : 0x053 ≤ a.toNat ∧ a.toNat ≤ 0x07C) :
    s.windowByte a = look s.port.staging ⟨a.toNat - 0x053, by omega⟩ := by
  unfold State.windowByte
  dsimp only
  simp (disch := omega) only [if_neg, if_pos]
  exact getD_toList _ (by omega)

/-- TABLE 76: an argument in the window. -/
theorem windowByte_args (s : State) {a : WinAddr} (h : 0x101 ≤ a.toNat ∧ a.toNat ≤ 0x13C) :
    s.windowByte a = look s.port.args ⟨a.toNat - 0x101, by omega⟩ := by
  have hc : ¬ isCompletionAddr a = true := by simp [isCompletionAddr]; omega
  have hn : ¬ isNoticeAddr a = true := by simp [isNoticeAddr]; omega
  unfold State.windowByte
  dsimp only
  simp (disch := first | omega | assumption) only [if_neg, if_pos]
  exact getD_toList _ (by omega)

theorem windowByte_submit (s : State) : s.windowByte 0x07E = s.port.submitByte := rfl

theorem windowByte_commandCode (s : State) : s.windowByte 0x100 = s.port.commandCode := rfl

/-- R178: what a byte written to a plain address makes of the port. -/
structure HostPort.Lands (p q : HostPort) (a : WinAddr) (v : Byte) : Prop extends p.SameBut q a where
  reads : ∀ s : State, ({ s with port := q } : State).windowByte a = v
  actions : q.actions = p.actions
  csN : q.csN = p.csN

theorem look_put_val_ne {n : Nat} (t : Vector Byte n) (i j : Fin n) (v : Byte) (h : j.val ≠ i.val) :
    look (put t i v) j = look t j := look_put_ne t v fun e => h (congrArg Fin.val e).symm

/-- R178: the four kinds of plain bytes. -/
theorem landByte_plain {a : WinAddr} (v : Byte) (s : State) (h : plainByte a) :
    ∃ p, landByte a v s = { s with port := p } ∧ s.port.Lands p a v := by
  have cases : (0x053 ≤ a.toNat ∧ a.toNat ≤ 0x07C) ∨ a.toNat = 0x07E ∨ a.toNat = 0x100 ∨
      (0x101 ≤ a.toNat ∧ a.toNat ≤ 0x13C) := by
    unfold plainByte at h
    omega
  rcases cases with r | r | r | r
  · refine ⟨_, landByte_staging v s r, ⟨⟨fun k hk => ?_, fun _ => rfl, fun _ => rfl, fun _ _ => rfl, rfl, rfl,
      rfl⟩, fun t => ?_, rfl, rfl⟩⟩
    · exact look_put_val_ne _ _ _ _ (by dsimp only; omega)
    · rw [windowByte_staging _ r]
      exact look_put_self _ _ _
  · obtain rfl : a = 0x07E := BitVec.eq_of_toNat_eq r
    obtain ⟨l, e⟩ := markIf_eq (v == Config.trigger) .submit
      { s with port := { s.port with submitByte := v } }
    exact ⟨_, (landByte_submit v s rfl).trans e, ⟨⟨fun _ _ => rfl, fun h => absurd rfl h, fun _ => rfl,
      fun _ _ => rfl, rfl, rfl, rfl⟩, fun _ => rfl, rfl, rfl⟩⟩
  · obtain rfl : a = 0x100 := BitVec.eq_of_toNat_eq r
    exact ⟨_, landByte_commandCode v s rfl, ⟨⟨fun _ _ => rfl, fun _ => rfl, fun h => absurd rfl h,
      fun _ _ => rfl, rfl, rfl, rfl⟩, fun _ => rfl, rfl, rfl⟩⟩
  · refine ⟨_, landByte_args v s r, ⟨⟨fun _ _ => rfl, fun _ => rfl, fun _ => rfl, fun k hk => ?_, rfl, rfl,
      rfl⟩, fun t => ?_, rfl, rfl⟩⟩
    · exact look_put_val_ne _ _ _ _ (by dsimp only; omega)
    · rw [windowByte_args _ r]
      exact look_put_self _ _ _

/-- The window does not show the frame state or IRQ_N. -/
theorem windowByte_moveOn (s : State) (p : HostPort) (isRead : Bool) (a b : WinAddr) :
    (judgeIrq { s with port := p.moveOn isRead a }).windowByte b =
      ({ s with port := p } : State).windowByte b := rfl

/-- Settles O12. -/
theorem plainBytesLand : Obligations.PlainBytesLand := by
  intro s a v h ha
  obtain ⟨p, e, lands⟩ := landByte_plain v s ha
  refine ⟨_, exec_windowWrite_at v h, ?_⟩
  rw [e]
  refine ⟨?_, fun b hb => ?_, ⟨false, rfl⟩, rfl, lands.actions, lands.submitResult, lands.csN⟩
  · rw [windowByte_moveOn]
    exact lands.reads s
  · rw [windowByte_moveOn]
    exact windowByte_sameBut lands.toSameBut hb

/-! ### Captures -/

theorem comesTo_self {s : State} {a : WinAddr} (h : s.readingAt a) : s.port.comesTo a = true := by
  obtain ⟨first, h⟩ := h
  simp [HostPort.comesTo, h]

/-- R177, R178: a read frame comes to `a` if none of the bytes between takes a capture (log 16). -/
theorem comesTo_iff {s : State} {cur a : WinAddr} (h : s.readingAt cur) : s.port.comesTo a = true ↔
    ∀ k < (a - cur).toNat, ¬ s.capturesAt (cur + BitVec.ofNat 10 k) := by
  obtain ⟨first, h⟩ := h
  simp only [HostPort.comesTo, h, List.all_eq_true, List.mem_range, Bool.not_eq_true', ← captureDue_iff,
    Bool.not_eq_true]

theorem captureAt_comes {inRegion : WinAddr → Bool} {capture : State → HostPort → HostPort} {a : WinAddr}
    {s : State} (hr : inRegion a = true) (h : s.port.comesTo a = true) :
    captureAt inRegion capture a s = { s with port := (capture s s.port).moveOn true a } := by
  simp [captureAt, hr, h]

theorem captureAt_stays {inRegion : WinAddr → Bool} {capture : State → HostPort → HostPort} {a : WinAddr}
    {s : State} (h : s.port.comesTo a = false) : captureAt inRegion capture a s = s := by
  simp [captureAt, h]

/-- A capture made of `s` and its port, whatever state its frame is in. -/
def ReadsNoFrame (capture : State → HostPort → HostPort) : Prop :=
  ∀ s a b, (capture (s.readOn a) (s.readOn a).port).moveOn true b = (capture s s.port).moveOn true b

theorem captureTime_noFrame : ReadsNoFrame captureTime := by
  intro s a b
  unfold captureTime State.readOn
  dsimp only
  split <;> rfl

theorem captureCq_noFrame : ReadsNoFrame captureCq := by
  intro s a b
  unfold captureCq State.readOn
  dsimp only
  split <;> rfl

theorem captureNq_noFrame : ReadsNoFrame captureNq := by
  intro s a b
  unfold captureNq State.readOn
  dsimp only
  split <;> rfl

theorem captureMirror_noFrame (x : WinAddr) : ReadsNoFrame (captureMirror x) := by
  intro s a b
  unfold captureMirror State.readOn
  dsimp only
  split <;> rfl

/-- R177, R178: a capture further on is taken as at its own address, or not at all (log 16). -/
theorem captureAt_further {inRegion : WinAddr → Bool} {capture : State → HostPort → HostPort}
    (hf : ReadsNoFrame capture) {s : State} {cur a : WinAddr} (h : s.readingAt cur)
    (hr : inRegion a = true) :
    ((∀ k < (a - cur).toNat, ¬ s.capturesAt (cur + BitVec.ofNat 10 k)) →
      finish (captureAt inRegion capture a s) = finish (captureAt inRegion capture a (s.readOn a))) ∧
    ((∃ k < (a - cur).toNat, s.capturesAt (cur + BitVec.ofNat 10 k)) →
      finish (captureAt inRegion capture a s) = finish s) := by
  refine ⟨fun free => congrArg finish ?_, fun ⟨k, hk, taken⟩ => congrArg finish (captureAt_stays ?_)⟩
  · rw [captureAt_comes hr ((comesTo_iff h).2 free), captureAt_comes hr (comesTo_self ⟨false, rfl⟩), hf]
    rfl
  · exact Bool.eq_false_iff.2 fun comes => (comesTo_iff h).1 comes k hk taken

theorem mirrorIndex_of {a : WinAddr} {n : SvId} (h : a.toNat / 16 = 32 + n.val) :
    isMirrorAddr a = true ∧ mirrorIndex a = n := by
  simp only [isMirrorAddr, decide_eq_true_eq, mirrorIndex, Fin.ext_iff]
  omega

/-- Settles O16. -/
theorem capturesTaken : Obligations.CapturesTaken := by
  refine ⟨fun s a h => ?_, fun s cur a c h hc => ?_⟩
  · have comes := comesTo_self h
    refine ⟨fun r e => congrArg finish ?_, fun r e => congrArg finish ?_, fun r e => congrArg finish ?_,
      fun r e => congrArg finish ?_, fun r e => congrArg finish ?_, fun r e => congrArg finish ?_,
      fun n r => ?_⟩
    · rw [captureAt_comes r comes, captureTime, e]
      rfl
    · rw [captureAt_comes r comes, captureTime, if_neg (by simpa using e)]
      rfl
    · rw [captureAt_comes r comes, captureCq, e]
      rfl
    · rw [captureAt_comes r comes, captureCq, if_neg (by simpa using e)]
      rfl
    · rw [captureAt_comes r comes, captureNq, e]
      rfl
    · rw [captureAt_comes r comes, captureNq, if_neg (by simpa using e)]
      rfl
    · obtain ⟨inMirror, rfl⟩ := mirrorIndex_of r
      refine ⟨fun e => congrArg finish ?_, fun within held => congrArg finish ?_⟩
      · rw [captureAt_comes inMirror comes, captureMirror]
        rw [if_pos (by simpa using e)]
        rfl
      · rw [captureAt_comes inMirror comes, captureMirror]
        rw [if_neg (by simpa using And.intro within held)]
        rfl
  · rcases hc with ⟨rfl, r⟩ | ⟨rfl, r⟩ | ⟨rfl, r⟩ | ⟨rfl, r⟩
    · exact captureAt_further captureTime_noFrame h r
    · exact captureAt_further captureCq_noFrame h r
    · exact captureAt_further captureNq_noFrame h r
    · exact captureAt_further (captureMirror_noFrame a) h r

end Sys2Proof.Machine
end

section
/-! What the window shows and a read frame is driven (R178, R181, TABLE 71 to TABLE 77): the byte layouts of
the records, and the read and the live byte region by region. -/

namespace Sys2Proof.Machine

/-! ### Little-endian fields -/

/-- A 16-bit field at two bytes. -/
theorem shows16_bytes (w : Word16) :
    shows16 w (BitVec.ofNat 8 w.toNat) (BitVec.ofNat 8 (w.toNat >>> 8)) := by
  have := w.isLt
  simp only [shows16, BitVec.toNat_ofNat, Nat.shiftRight_eq_div_pow]
  omega

/-- A bit of a byte of a 64-bit number. -/
theorem byteAt_getLsbD (v : Mask64) (k n : Nat) (h : n < 8) :
    (byteAt v k).getLsbD n = v.getLsbD (8 * k + n) := by
  rw [byteAt, BitVec.getLsbD_ofNat, decide_eq_true h, Bool.true_and, Nat.testBit_shiftRight,
    BitVec.testBit_toNat]

/-- A 64-bit field over the eight bytes from offset `k` on. -/
theorem shows64_of {v : Mask64} {b : Nat → Byte} {k : Nat} (h : ∀ j < 8, b (k + j) = byteAt v j) :
    shows64 v b k := by
  intro n hn
  rw [h (n / 8) (by omega), byteAt_getLsbD v _ _ (by omega)]
  congr 1
  omega

/-! ### Records -/

theorem outcomeCode_eq (o : Outcome) : o.code = statusCode (.of o) := by cases o <;> rfl

theorem stuckCode_eq (c : StuckCause) : c.code = if c = .repeated then 1 else 2 := by cases c <;> rfl

theorem statusCode_eq (st : Status) : st.code = statusCode st := by
  cases st with
  | ok | groupPolicyFailed => rfl
  | of o => exact outcomeCode_eq o

theorem boundCode_eq (b : Bound) : b.code = boundCode b := by cases b <;> rfl

theorem windowCode_eq (w : WindowState) : w.code = windowCode w := by cases w <;> rfl

theorem heldCode_eq (h : LineHeld) : h.code = heldCode h := by cases h <;> rfl

theorem causeCode_eq (c : EntryCause) : c.code = causeCode c := by cases c <;> rfl

theorem setWidth_eq_ofNat (a : BusAddr) : (a.setWidth 8 : Byte) = BitVec.ofNat 8 a.toNat :=
  BitVec.eq_of_toNat_eq (by simp)

theorem byteOf_fin {n : Nat} (i : Fin n) (h : n ≤ 256) : (byteOf i.val).toNat = i.val := by
  rw [byteOf, BitVec.toNat_ofNat]
  have := i.isLt
  omega

/-- TABLE 74: bytes that are those of `recordBytes` show the record. -/
theorem recordShows_of {r : CompletionRecord} {b : Nat → Byte}
    (h : ∀ k < 58, b k = (recordBytes r).getD k 0) : recordShows r b := by
  obtain ⟨x, y, hb⟩ : ∃ x y, r.target.bytes = [x, y] := by
    cases r.target <;> exact ⟨_, _, rfl⟩
  have layout : recordBytes r = [r.tag, r.status.code, r.kind.code, x, y, byteOf r.attempts] ++
      word16Bytes r.finishTime ++ [byteOf (r.result.getD []).length, byteOf (r.bytesAcked.getD 0)] ++
      mask64Bytes (r.successSet.getD 0) ++ mask64Bytes (r.failSet.getD 0) ++ (r.result.getD []) := by
    rw [recordBytes, hb]
    rfl
  rw [layout] at h
  refine ⟨h 0 (by omega), (h 1 (by omega)).trans (statusCode_eq _), (h 2 (by omega)).trans ?_,
    fun n e => ?_, fun g e => ?_, h 5 (by omega), ?_, h 8 (by omega), h 9 (by omega),
    shows64_of fun j hj => ?_, shows64_of fun j hj => ?_, fun k hk => ?_⟩
  · cases r.kind <;> rfl
  · rw [e] at hb
    cases hb
    exact ⟨h 3 (by omega), (congrArg BitVec.toNat (h 4 (by omega))).trans (byteOf_fin n (by omega))⟩
  · rw [e] at hb
    cases hb
    exact ⟨h 3 (by omega), (congrArg BitVec.toNat (h 4 (by omega))).trans (byteOf_fin g (by omega))⟩
  · rw [h 6 (by omega), h 7 (by omega)]
    exact shows16_bytes _
  · rw [h _ (by omega)]
    interval_cases j <;> rfl
  · rw [h _ (by omega)]
    interval_cases j <;> rfl
  · rw [h _ (by omega), Nat.add_comm]
    rfl

/-- TABLE 67: a value field with its GENERATION, from a DETAIL byte on. -/
theorem valueShows_of {g : Word16} {v : Mask64} {d : Nat → Byte} {k : Nat} (hk : k ≤ 2)
    (h : ∀ n, k ≤ n → n < 8 → d n = (word16Bytes g ++ valueHead v).getD (n - k) 0) :
    valueShows g v d k := by
  refine ⟨?_, fun n hn => ?_, fun n h1 h2 => ?_⟩
  · rw [h k (by omega) (by omega), h (k + 1) (by omega) (by omega), Nat.sub_self, Nat.add_sub_cancel_left]
    exact shows16_bytes g
  · have at_byte : ∀ j < 4, (word16Bytes g ++ valueHead v).getD (j + 2) 0 = byteAt v j := by
      intro j hj
      interval_cases j <;> rfl
    rw [h _ (by omega) (by omega), show k + 2 + n / 8 - k = n / 8 + 2 by omega,
      at_byte _ (by omega), byteAt_getLsbD v _ _ (by omega)]
    congr 1
    omega
  · rw [h n (by omega) h2]
    exact List.getD_eq_default _ _ (by simp [word16Bytes, valueHead]; omega)

/-- TABLE 67, TABLE 72: KIND, SUBJECT and DETAIL of a notice. -/
theorem noticeShows_of {body : NoticeBody} {d : Nat → Byte}
    (h : ∀ n < 8, d n = body.detail.getD n 0) : noticeShows body body.kindCode body.subject d := by
  cases body with simp only [NoticeBody.detail, setWidth_eq_ofNat, boundCode_eq, stuckCode_eq, windowCode_eq,
    outcomeCode_eq, heldCode_eq, causeCode_eq] at h
  | alert lt i a st | targetIsolated lt i a f | targetReinstated lt i a | targetRetired lt i a =>
    exact ⟨rfl, byteOf_fin lt (by omega), h⟩
  | strayAlert i a v | alertStuck i cause a | segmentFault i p l c | segmentRecovered i p c =>
    exact ⟨rfl, byteOf_fin i (by omega), h⟩
  | surveyFailed n lt o f => exact ⟨rfl, byteOf_fin n (by omega), h⟩
  | surveyChange n g v | surveyRecovered n g v =>
    exact ⟨rfl, byteOf_fin n (by omega), valueShows_of (by omega) fun m _ hm => h m hm⟩
  | surveyWindow n new old g v =>
    refine ⟨rfl, byteOf_fin n (by omega), h 0 (by omega), h 1 (by omega),
      valueShows_of (by omega) fun m h2 hm => (h m hm).trans ?_⟩
    obtain ⟨j, rfl⟩ := Nat.exists_eq_add_of_le h2
    rw [Nat.add_sub_cancel_left, Nat.add_comm]
    rfl

/-- TABLE 75: bytes that are those of `noticeBytes` show the notice. -/
theorem noticeWindowShows_of {n : Notice} {b : Nat → Byte}
    (h : ∀ k < 13, b k = (noticeBytes n).getD k 0) : noticeWindowShows n b := by
  refine ⟨?_, ?_, h 4 (by omega)⟩
  · rw [show b 0 = n.body.kindCode from h 0 (by omega), show b 1 = n.body.subject from h 1 (by omega)]
    refine noticeShows_of fun k hk => ?_
    rw [h _ (by omega), Nat.add_comm]
    rfl
  · rw [h 2 (by omega), h 3 (by omega)]
    exact shows16_bytes _

/-- TABLE 77: bytes that are those of `mirrorBytes` show the mirror slot. -/
theorem mirrorShows_of {v : MirrorView} {b : Nat → Byte}
    (h : ∀ k < 16, b k = (mirrorBytes v).getD k 0) : mirrorShows v.slot v.overruns v.consecFails b := by
  refine ⟨?_, (h 2 (by omega)).trans ?_, h 3 (by omega), shows64_of fun j hj => ?_, ?_, h 14 (by omega),
    h 15 (by omega)⟩
  · rw [h 0 (by omega), h 1 (by omega)]
    exact shows16_bytes _
  · show v.slot.status.code = _
    cases v.slot.status <;> rfl
  · rw [h _ (by omega)]
    interval_cases j <;> rfl
  · rw [h 12 (by omega), h 13 (by omega)]
    exact shows16_bytes _

/-! ### The regions of captures -/

theorem isCompletionAddr_iff (a : WinAddr) :
    isCompletionAddr a = true ↔ 0x080 ≤ a.toNat ∧ a.toNat ≤ 0x0B9 := by
  simp [isCompletionAddr]

theorem isNoticeAddr_iff (a : WinAddr) : isNoticeAddr a = true ↔ 0x0E0 ≤ a.toNat ∧ a.toNat ≤ 0x0EC := by
  simp [isNoticeAddr]

theorem isTimeAddr_iff (a : WinAddr) : isTimeAddr a = true ↔ a.toNat = 0x004 ∨ a.toNat = 0x005 := by
  simp [isTimeAddr]

theorem isMirrorAddr_iff (a : WinAddr) : isMirrorAddr a = true ↔ 0x200 ≤ a.toNat := by
  simp [isMirrorAddr]

section
variable {s : State} {a : WinAddr}

theorem readByte_time {t : Word16} (h : isTimeAddr a = true) (e : s.port.timeCapture = some t) :
    s.readByte a = (word16Bytes t).getD (a.toNat - 0x004) 0 := by
  rw [State.readByte, if_pos h, e]

theorem readByte_completion {r : Option CompletionRecord} (h : isCompletionAddr a = true)
    (e : s.port.cqCapture = some r) : s.readByte a = completionByte r (a.toNat - 0x080) := by
  have ht : ¬ isTimeAddr a = true := by rw [isCompletionAddr_iff] at h; rw [isTimeAddr_iff]; omega
  rw [State.readByte, if_neg ht, if_pos h, e]

theorem readByte_notice {n : Option Notice} (h : isNoticeAddr a = true)
    (e : s.port.nqCapture = some n) : s.readByte a = noticeByte n (a.toNat - 0x0E0) := by
  have ht : ¬ isTimeAddr a = true := by rw [isNoticeAddr_iff] at h; rw [isTimeAddr_iff]; omega
  have hc : ¬ isCompletionAddr a = true := by
    rw [isNoticeAddr_iff] at h; rw [isCompletionAddr_iff]; omega
  rw [State.readByte, if_neg ht, if_neg hc, if_pos h, e]

theorem readByte_mirror {v : MirrorView} (h : isMirrorAddr a = true)
    (e : look s.port.snapshots (mirrorIndex a) = some v) :
    s.readByte a = (mirrorBytes v).getD (a.toNat % 16) 0 := by
  rw [isMirrorAddr_iff] at h
  have ht : ¬ isTimeAddr a = true := by rw [isTimeAddr_iff]; omega
  have hc : ¬ isCompletionAddr a = true := by rw [isCompletionAddr_iff]; omega
  have hn : ¬ isNoticeAddr a = true := by rw [isNoticeAddr_iff]; omega
  rw [State.readByte, if_neg ht, if_neg hc, if_neg hn, if_pos ((isMirrorAddr_iff a).2 h), e]

theorem windowByte_completion (h : isCompletionAddr a = true) :
    s.windowByte a = completionByte (cqHead s) (a.toNat - 0x080) := by
  have r := (isCompletionAddr_iff a).1 h
  unfold State.windowByte
  dsimp only
  simp (disch := first | omega | assumption) only [if_neg, if_pos]

theorem windowByte_notice (h : isNoticeAddr a = true) :
    s.windowByte a = noticeByte (nqHead s) (a.toNat - 0x0E0) := by
  have r := (isNoticeAddr_iff a).1 h
  have hc : ¬ isCompletionAddr a = true := by rw [isCompletionAddr_iff]; omega
  unfold State.windowByte
  dsimp only
  simp (disch := first | omega | assumption) only [if_neg, if_pos]

theorem windowByte_mirror (h : isMirrorAddr a = true) :
    s.windowByte a = (mirrorBytes (mirrorView s (mirrorIndex a))).getD (a.toNat % 16) 0 := by
  have r := (isMirrorAddr_iff a).1 h
  have hc : ¬ isCompletionAddr a = true := by rw [isCompletionAddr_iff]; omega
  have hn : ¬ isNoticeAddr a = true := by rw [isNoticeAddr_iff]; omega
  unfold State.windowByte
  dsimp only
  simp (disch := first | omega | assumption) only [if_neg, if_pos]

/-- TABLE 71: bytes of no register, and those a host writes to act, read 0. -/
theorem windowByte_unlisted (h : a.toNat = 0x002 ∨ (0x006 ≤ a.toNat ∧ a.toNat < 0x010) ∨
    (0x014 ≤ a.toNat ∧ a.toNat < 0x020) ∨ (0x02B ≤ a.toNat ∧ a.toNat < 0x053) ∨
    (0x0BA ≤ a.toNat ∧ a.toNat < 0x0E0) ∨ (0x0ED ≤ a.toNat ∧ a.toNat < 0x100) ∨
    (0x13E ≤ a.toNat ∧ a.toNat < 0x200)) : s.windowByte a = 0 := by
  have hc : ¬ isCompletionAddr a = true := by rw [isCompletionAddr_iff]; omega
  have hn : ¬ isNoticeAddr a = true := by rw [isNoticeAddr_iff]; omega
  have hm : ¬ isMirrorAddr a = true := by rw [isMirrorAddr_iff]; omega
  unfold State.windowByte
  dsimp only
  simp (disch := first | omega | assumption) only [if_neg]

end

/-- The address `k` after `base`. -/
theorem toNat_offset (base : WinAddr) {k : Nat} (h : base.toNat + k < 1024) :
    (base + BitVec.ofNat 10 k).toNat = base.toNat + k := by
  rw [BitVec.toNat_add, BitVec.toNat_ofNat]
  omega

/-- Address `k` of the completion window. -/
theorem completionAddr {k : Nat} (h : k < 58) : isCompletionAddr (0x080 + BitVec.ofNat 10 k) = true ∧
    (0x080 + BitVec.ofNat 10 k : WinAddr).toNat - 0x080 = k := by
  have e : (0x080 + BitVec.ofNat 10 k : WinAddr).toNat = 0x080 + k :=
    toNat_offset 0x080 (by show 0x080 + k < 1024; omega)
  rw [isCompletionAddr_iff, e]
  omega

/-- Address `k` of the notice window. -/
theorem noticeAddr {k : Nat} (h : k < 13) : isNoticeAddr (0x0E0 + BitVec.ofNat 10 k) = true ∧
    (0x0E0 + BitVec.ofNat 10 k : WinAddr).toNat - 0x0E0 = k := by
  have e : (0x0E0 + BitVec.ofNat 10 k : WinAddr).toNat = 0x0E0 + k :=
    toNat_offset 0x0E0 (by show 0x0E0 + k < 1024; omega)
  rw [isNoticeAddr_iff, e]
  omega

/-- Address `k` of mirror slot `n`. -/
theorem mirrorAddr (n : SvId) {k : Nat} (h : k < 16) :
    let a : WinAddr := BitVec.ofNat 10 (0x200 + 16 * n.val + k)
    isMirrorAddr a = true ∧ mirrorIndex a = n ∧ a.toNat % 16 = k := by
  have e : (BitVec.ofNat 10 (0x200 + 16 * n.val + k) : WinAddr).toNat = 0x200 + 16 * n.val + k := by
    rw [BitVec.toNat_ofNat]
    have := n.isLt
    omega
  obtain ⟨m, i⟩ := mirrorIndex_of (a := BitVec.ofNat 10 (0x200 + 16 * n.val + k)) (n := n) (by omega)
  exact ⟨m, i, by omega⟩

/-! ### The register table -/

theorem toList_eq_map_look {α : Type} {n : Nat} (t : Vector α n) :
    t.toList = (List.finRange n).map (look t) := by
  apply List.ext_getElem
  · simp
  · intro i h1 h2
    simp [look]

/-- R53, R57: how many places of a table are taken. -/
theorem count_taken {α : Type} {n : Nat} (t : Vector (Option α) n) :
    (t.toList.filter (·.isSome)).length = ((List.finRange n).filter fun i => (look t i).isSome).length := by
  rw [toList_eq_map_look, List.filter_map, List.length_map]
  rfl

/-- Four flags in the low bits of a byte. -/
theorem fourFlags_getLsbD (a b c d : Bool) (n : Nat) :
    ((if a then 1 else 0) ||| (if b then 2 else 0) ||| (if c then 4 else 0) ||| (if d then 8 else 0) :
      Byte).getLsbD n = [a, b, c, d].getD n false := by
  have bits : ∀ a b c d : Bool, ∀ n : Fin 8, (((if a then 1 else 0) ||| (if b then 2 else 0) |||
      (if c then 4 else 0) ||| (if d then 8 else 0) : Byte).getLsbD n.val) =
      [a, b, c, d].getD n.val false := by decide
  by_cases hn : n < 8
  · exact bits a b c d ⟨n, hn⟩
  · rw [BitVec.getLsbD_of_ge _ _ (by omega), List.getD_eq_default _ _ (by simp; omega)]

theorem flags_high (a b c d : Bool) {n : Nat} (h : 4 ≤ n) : [a, b, c, d].getD n false = false :=
  List.getD_eq_default _ _ h

/-- TABLE 71: the live bytes outside the queue heads and the mirror. -/
theorem windowByte_table (s : State) : tableShows s s.windowByte := by
  have causes (n : Nat) : (s.windowByte 0x010).getLsbD n =
      [cqReady s.completion, nqReady s.notices, s.irq.rqSpace, s.irq.hostMisuse].getD n false :=
    fourFlags_getLsbD _ _ _ _ n
  have suspended (n : Nat) : (s.windowByte 0x02A).getLsbD n = [(s.seg 0).alert.suspended,
      (s.seg 1).alert.suspended, (s.seg 2).alert.suspended, (s.seg 3).alert.suspended].getD n false :=
    fourFlags_getLsbD _ _ _ _ n
  refine ⟨rfl, rfl, rfl, shows16_bytes _, ?_, ?_, causes 2, causes 3,
    fun n hn => (causes n).trans (flags_high _ _ _ _ hn), rfl, rfl, rfl, rfl,
    congrArg (BitVec.ofNat 8) (count_taken s.contexts), congrArg (BitVec.ofNat 8) (count_taken s.slots),
    rfl, rfl, rfl, fun i => ⟨?_, ?_⟩, fun n hn => (suspended n).trans (flags_high _ _ _ _ hn), fun k => ?_,
    rfl, rfl, ?_, rfl, fun k => ?_, ?_, fun a => windowByte_unlisted⟩
  · rw [causes 0]
    exact cqReady_iff _
  · rw [causes 1]
    exact nqReady_iff _
  · have code : s.windowByte (0x026 + BitVec.ofNat 10 i.val) = (s.segState i).code := by
      fin_cases i <;> rfl
    rw [code, State.segState]
    cases (s.seg i).state <;> rfl
  · rw [suspended]
    fin_cases i <;> rfl
  · have e : (0x053 + BitVec.ofNat 10 k.val : WinAddr).toNat = 0x053 + k.val :=
      toNat_offset 0x053 (by show 0x053 + k.val < 1024; omega)
    rw [windowByte_staging s (by omega)]
    exact congrArg (look _) (Fin.ext (by dsimp only; omega))
  · show s.port.submitResult.code = _
    cases s.port.submitResult <;> rfl
  · have e : (0x101 + BitVec.ofNat 10 k.val : WinAddr).toNat = 0x101 + k.val :=
      toNat_offset 0x101 (by show 0x101 + k.val < 1024; omega)
    rw [windowByte_args s (by omega)]
    exact congrArg (look _) (Fin.ext (by dsimp only; omega))
  · show s.port.commandResult.code = _
    cases s.port.commandResult <;> rfl

/-! ### What a read frame is driven -/

/-- From a capture the byte read depends on the port alone. -/
theorem readByte_captured {s t : State} {a : WinAddr} (hp : t.port = s.port)
    (h : isTimeAddr a = true ∧ s.port.timeCapture ≠ none ∨
      isCompletionAddr a = true ∧ s.port.cqCapture ≠ none ∨
      isNoticeAddr a = true ∧ s.port.nqCapture ≠ none ∨
      ∃ n : SvId, a.toNat / 16 = 32 + n.val ∧ look s.port.snapshots n ≠ none) :
    t.readByte a = s.readByte a := by
  rcases h with ⟨r, e⟩ | ⟨r, e⟩ | ⟨r, e⟩ | ⟨n, r, e⟩
  · obtain ⟨x, hx⟩ := Option.ne_none_iff_exists'.1 e
    rw [readByte_time r hx, readByte_time r (hp ▸ hx)]
  · obtain ⟨x, hx⟩ := Option.ne_none_iff_exists'.1 e
    rw [readByte_completion r hx, readByte_completion r (hp ▸ hx)]
  · obtain ⟨x, hx⟩ := Option.ne_none_iff_exists'.1 e
    rw [readByte_notice r hx, readByte_notice r (hp ▸ hx)]
  · obtain ⟨m, rfl⟩ := mirrorIndex_of r
    obtain ⟨x, hx⟩ := Option.ne_none_iff_exists'.1 e
    rw [readByte_mirror m hx, readByte_mirror m (hp ▸ hx)]

/-- Without a capture the byte read is the live one. -/
theorem readByte_live {s : State} {a : WinAddr} (ht : isTimeAddr a = true → s.port.timeCapture = none)
    (hc : isCompletionAddr a = true → s.port.cqCapture = none)
    (hn : isNoticeAddr a = true → s.port.nqCapture = none)
    (hm : ∀ n : SvId, a.toNat / 16 = 32 + n.val → look s.port.snapshots n = none) :
    s.readByte a = s.windowByte a := by
  have index (rm : isMirrorAddr a = true) : a.toNat / 16 = 32 + (mirrorIndex a).val := by
    rw [isMirrorAddr_iff] at rm
    have := a.isLt
    simp only [mirrorIndex]
    omega
  unfold State.readByte
  split
  case isTrue rt => rw [ht rt]
  split
  case isTrue rc => rw [hc rc]
  split
  case isTrue rn => rw [hn rn]
  split
  case isTrue rm => rw [hm _ (index rm)]
  case isFalse => rfl

/-- Settles O17. -/
theorem readFrameIsDriven : Obligations.ReadFrameIsDriven := by
  intro s
  refine ⟨fun t a => readByte_captured, fun a => readByte_live, fun t e => ?_,
    ⟨fun r e => recordShows_of fun k hk => ?_, fun e k hk => ?_, fun h q e => recordShows_of fun k hk => ?_,
      fun e k hk => ?_⟩,
    ⟨fun r e => noticeWindowShows_of fun k hk => ?_, fun e k hk => ?_,
      fun h q e => noticeWindowShows_of fun k hk => ?_, fun e k hk => ?_⟩,
    fun n => ⟨fun v e => mirrorShows_of fun k hk => ?_,
      mirrorShows_of (v := mirrorView s n) fun k hk => ?_⟩,
    windowByte_table s, fun e => ?_, fun e => ?_, fun d h e => ?_, fun a h => ?_, fun a h => ?_⟩
  · rw [readByte_time rfl e, readByte_time rfl e]
    exact shows16_bytes t
  · rw [readByte_completion (completionAddr hk).1 e, (completionAddr hk).2]
    rfl
  · exact readByte_completion (completionAddr hk).1 e
  · rw [windowByte_completion (completionAddr hk).1, (completionAddr hk).2, cqHead, e]
    rfl
  · refine (windowByte_completion (completionAddr hk).1).trans ?_
    rw [cqHead, e]
    rfl
  · rw [readByte_notice (noticeAddr hk).1 e, (noticeAddr hk).2]
    rfl
  · exact readByte_notice (noticeAddr hk).1 e
  · rw [windowByte_notice (noticeAddr hk).1, (noticeAddr hk).2, nqHead, e]
    rfl
  · refine (windowByte_notice (noticeAddr hk).1).trans ?_
    rw [nqHead, e]
    rfl
  · obtain ⟨m, i, l⟩ := mirrorAddr n hk
    rw [readByte_mirror m (i ▸ e), l]
  · obtain ⟨m, i, l⟩ := mirrorAddr n hk
    rw [windowByte_mirror m, i, l]
  · rw [State.hostOutput, e]
  · rw [State.hostOutput, e]
  · rw [State.hostOutput, e]
  · obtain ⟨first, e⟩ := h
    rw [State.hostOutput, e]
  · obtain ⟨first, e⟩ := h
    rw [State.hostOutput, e]
    exact ⟨fun c => congrArg some (if_pos ((captureDue_iff s a).2 c)),
      fun c => congrArg some (if_neg (mt (captureDue_iff s a).1 c))⟩

end Sys2Proof.Machine
end


section
/-! The actions of a frame and the codes of the operands (R29, R43, R139, R175, R182, R183): what each
operand form reads, and what the actions at hand come to. -/

namespace Sys2Proof.Machine

/-! ### Operand forms -/

/-- An index is read by its number. -/
theorem indexOf_eq_some {n v : Nat} {i : Fin n} : indexOf? n v = some i ↔ v = i.val := by
  unfold indexOf?
  split
  · simp [Fin.ext_iff]
  · next h => exact iff_of_false (by simp) fun e => h (e ▸ i.isLt)

theorem indexOf_eq_none {n v : Nat} : indexOf? n v = none ↔ n ≤ v := by
  unfold indexOf?
  split
  · exact iff_of_false (by simp) (by omega)
  · exact iff_of_true rfl (by omega)

/-- The codes are small numbers. -/
theorem byte_eq_iff (v : Byte) : (v = 0 ↔ v.toNat = 0) ∧ (v = 1 ↔ v.toNat = 1) ∧ (v = 2 ↔ v.toNat = 2) :=
  ⟨BitVec.toNat_eq.trans Iff.rfl, BitVec.toNat_eq.trans Iff.rfl, BitVec.toNat_eq.trans Iff.rfl⟩

/-- TABLE 72: yes/no. -/
theorem boolOf_eq_some {v : Byte} {b : Bool} : boolOf? v = some b ↔ v.toNat = if b then 1 else 0 := by
  simp only [boolOf?, byte_eq_iff]
  by_cases h0 : v.toNat = 0
  · cases b <;> simp [h0]
  by_cases h1 : v.toNat = 1
  · cases b <;> simp [h1]
  · cases b <;> simp only [h0, h1, if_false, reduceCtorEq, Bool.false_eq_true, if_true]

theorem boolOf_eq_none {v : Byte} : boolOf? v = none ↔ 1 < v.toNat := by
  simp only [boolOf?, byte_eq_iff]
  split_ifs with h0 h1 <;> simp <;> omega

/-- TABLE 72: PRIORITY. -/
theorem priorityOf_eq_some {v : Byte} {p : Priority} :
    priorityOf? v = some p ↔ v.toNat = if p = .urgent then 1 else 0 := by
  simp only [priorityOf?, byte_eq_iff]
  by_cases h0 : v.toNat = 0
  · cases p <;> simp [h0]
  by_cases h1 : v.toNat = 1
  · cases p <;> simp [h1]
  · cases p <;> simp only [h0, h1, if_false, reduceCtorEq, if_true]

/-- TABLE 72: KIND. -/
theorem kindOf_eq_some {v : Byte} {k : Kind} : kindOf? v = some k ↔ k.code = v := by
  constructor
  · unfold kindOf?
    intro h
    split at h
    · next e => cases h; exact e.symm
    split at h
    · next e => cases h; exact e.symm
    split at h
    · next e => cases h; exact e.symm
    split at h
    · next e => cases h; exact e.symm
    split at h
    · next e => cases h; exact e.symm
    · cases h
  · rintro rfl
    cases k <;> rfl

/-- TABLE 72: a byte is a KIND code when it is 1 to 5. -/
theorem exists_kindOf_iff {v : Byte} : (∃ k, kindOf? v = some k) ↔ 1 ≤ v.toNat ∧ v.toNat ≤ 5 := by
  constructor
  · rintro ⟨k, hk⟩
    rw [← kindOf_eq_some.1 hk]
    cases k <;> decide
  · rintro ⟨h1, h2⟩
    obtain ⟨k, hk⟩ : ∃ k : Kind, k.code = v := by
      have : v.toNat = 1 ∨ v.toNat = 2 ∨ v.toNat = 3 ∨ v.toNat = 4 ∨ v.toNat = 5 := by omega
      rcases this with h | h | h | h | h
      · exact ⟨.write, BitVec.eq_of_toNat_eq h.symm⟩
      · exact ⟨.read, BitVec.eq_of_toNat_eq h.symm⟩
      · exact ⟨.writeRead, BitVec.eq_of_toNat_eq h.symm⟩
      · exact ⟨.probe, BitVec.eq_of_toNat_eq h.symm⟩
      · exact ⟨.blockRead, BitVec.eq_of_toNat_eq h.symm⟩
    exact ⟨k, kindOf_eq_some.2 hk⟩

/-- TABLE 72: SPEED. -/
theorem speedOf_eq_some {v : Byte} {p : Speed} : speedOf? v = some p ↔
    v.toNat = (match p with | .standard => 0 | .fast => 1 | .fastPlus => 2) := by
  simp only [speedOf?, byte_eq_iff]
  split_ifs with h0 h1 h2 <;> cases p <;> simp <;> omega

theorem speedOf_eq_none {v : Byte} : speedOf? v = none ↔ 2 < v.toNat := by
  simp only [speedOf?, byte_eq_iff]
  split_ifs with h0 h1 h2 <;> simp <;> omega

/-- Conventions: a bus address byte in the range 0x08 to 0x77 is the address it shows. -/
theorem busAddrOf_eq_some {v : Byte} {a : BusAddr} (h : v.toNat = a.toNat) (hr : inBusRange a) :
    busAddrOf? v = some a := by
  obtain ⟨h1, h2⟩ := hr
  have e : v.setWidth 7 = a := BitVec.eq_of_toNat_eq (by
    rw [BitVec.toNat_setWidth, h]
    exact Nat.mod_eq_of_lt a.isLt)
  rw [busAddrOf?, if_pos ⟨h ▸ h1, h ▸ h2⟩, e]

theorem busAddrOf_eq_none {v : Byte} : busAddrOf? v = none ↔ v.toNat < 0x08 ∨ 0x77 < v.toNat := by
  unfold busAddrOf? Config.busAddrLow Config.busAddrHigh
  split
  · exact iff_of_false (by simp) (by omega)
  · exact iff_of_true rfl (by omega)

/-! ### Actions at hand -/

/-- Settles O44: the code is one `codeUnknown` takes, and EXECUTE answers it. -/
theorem unknownCodesAnswered : Obligations.UnknownCodesAnswered := by
  intro s rest code h unknown
  have hc : codeUnknown code = true := by simpa [codeUnknown] using unknown
  exact congrArg finish (takeCommand_at codeUnknown (answer .unknownCommand) h hc)

/-- Settles O22: each of the four is one write of the state, and RESUME of a PAUSED dispatcher an
examination. -/
theorem pauseResumeAndClears : Obligations.PauseResumeAndClears := by
  intro s rest
  have resume (h : s.atAction .resume rest) :
      exec .resume s = finish (resumeDispatcher (s.leaving rest)) :=
    congrArg finish (takeAction_at resumeDispatcher h)
  refine ⟨fun h => congrArg finish (takeAction_at _ h), fun h p => ?_, fun h p => ?_, examine_paused,
    fun h => congrArg finish (takeAction_at _ h), fun h => congrArg finish (takeAction_at _ h)⟩
  · exact (resume h).trans (congrArg finish (if_pos p))
  · exact (resume h).trans (congrArg finish (if_neg (by simp [p])))

/-- R135: with nothing to post, posting leaves the state as it is. -/
theorem postAll_nothing {s : State} (h : s.completion.posting = []) : postAll s = s := by
  unfold postAll
  rw [h, postFrom, ← h]

theorem popCq_cons {s : State} {x : CqItem} {q : List CqItem} (h : s.completion.cq = x :: q) :
    popCq s = examine (postAll { s with completion := { s.completion with cq := q } }) := by
  rw [popCq, h]

theorem popNq_cons {s : State} {x : Notice} {q : List Notice} (h : s.notices.nq = x :: q) :
    popNq s = { s with notices := { s.notices with nq := q } } := by
  rw [popNq, h]

/-- Settles O29, by the queue popped. -/
theorem popsTakeHeads : Obligations.PopsTakeHeads := by
  intro s rest
  have popCqAt (h : s.atAction .cqPop rest) : exec .cqPop s = finish (popCq (s.leaving rest)) :=
    congrArg finish (takeAction_at popCq h)
  have popNqAt (h : s.atAction .nqPop rest) : exec .nqPop s = finish (popNq (s.leaving rest)) :=
    congrArg finish (takeAction_at popNq h)
  refine ⟨fun h e => ?_, fun x q h e => ?_, fun x q h e hp hq => ?_, fun h e => ?_, fun x q h e => ?_⟩
  · have : popCq (s.leaving rest) = latchMisuse (s.leaving rest) := by
      rw [popCq, leaving_completion, e]
    exact (popCqAt h).trans (congrArg finish this)
  · exact (popCqAt h).trans (congrArg finish (popCq_cons (s := s.leaving rest) e))
  · refine (popCqAt h).trans (congrArg finish ((popCq_cons (s := s.leaving rest) e).trans ?_))
    rw [postAll_nothing (by exact hp)]
    exact examine_stay hq rfl
  · have : popNq (s.leaving rest) = latchMisuse (s.leaving rest) := by
      rw [popNq, leaving_notices, e]
    exact (popNqAt h).trans (congrArg finish this)
  · exact (popNqAt h).trans (congrArg finish (popNq_cons (s := s.leaving rest) e))

end Sys2Proof.Machine
end


section
/-! The candidate, submissions, the status of a finishing request, device reset and the timebase (R28 to
R34, R44, R103, R132, R133, R184, R185). -/

namespace Sys2Proof.Machine

/-! ### The candidate (R44) -/

/-- A QUEUED entry of priority `p`. -/
def RqEntry.waitsAs (p : Priority) (e : RqEntry) : Bool := e.queued && e.request.priority == p

theorem waitsAs_iff {p : Priority} {e : RqEntry} :
    e.waitsAs p = true ↔ e.queued = true ∧ e.request.priority = p := by
  simp [RqEntry.waitsAs]

theorem candidate_running {s : State} (h : s.paused = false) :
    candidate s = (s.rq.find? (·.waitsAs .urgent)).or (s.rq.find? (·.waitsAs .normal)) := by
  unfold candidate RqEntry.waitsAs
  rw [if_neg (by simp [h])]
  cases s.rq.find? fun e => e.queued && e.request.priority == .urgent <;> rfl

/-- The oldest QUEUED entry of a priority. -/
theorem find_waitsAs_iff {l : List RqEntry} {p : Priority} {e : RqEntry} :
    l.find? (·.waitsAs p) = some e ↔ e.request.priority = p ∧ ∃ l1 l2, l = l1 ++ e :: l2 ∧
      e.queued = true ∧ ∀ x ∈ l1, x.queued = true → x.request.priority ≠ e.request.priority := by
  rw [List.find?_eq_some_iff_append, waitsAs_iff]
  constructor
  · rintro ⟨⟨hq, rfl⟩, l1, l2, hl, h⟩
    refine ⟨rfl, l1, l2, hl, hq, fun x hx q e => ?_⟩
    have := h x hx
    rw [waitsAs_iff.2 ⟨q, e⟩] at this
    cases this
  · rintro ⟨rfl, l1, l2, hl, hq, h⟩
    refine ⟨⟨hq, rfl⟩, l1, l2, hl, fun x hx => ?_⟩
    rw [Bool.not_eq_true', Bool.eq_false_iff]
    exact fun c => h x hx (waitsAs_iff.1 c).1 (waitsAs_iff.1 c).2

/-- Settles O24, by the priority of the entry. -/
theorem candidateRule : Obligations.CandidateRule := by
  intro s e running
  rw [candidate_running running, Option.or_eq_some_iff]
  have none_urgent : s.rq.find? (·.waitsAs .urgent) = none ↔
      ∀ x ∈ s.rq, x.queued = true → x.request.priority ≠ .urgent := by
    simp only [List.find?_eq_none, waitsAs_iff, not_and, ne_eq]
  rw [none_urgent, find_waitsAs_iff, find_waitsAs_iff]
  cases hp : e.request.priority with
  | urgent =>
    constructor
    · rintro (⟨-, l1, l2, h⟩ | ⟨-, h, -⟩)
      · exact ⟨l1, l2, h.1, h.2.1, h.2.2, nofun⟩
      · cases h
    · rintro ⟨l1, l2, hl, hq, h, -⟩
      exact .inl ⟨rfl, l1, l2, hl, hq, h⟩
  | normal =>
    constructor
    · rintro (⟨h, -⟩ | ⟨hu, -, l1, l2, h⟩)
      · cases h
      · exact ⟨l1, l2, h.1, h.2.1, h.2.2, fun _ => hu⟩
    · rintro ⟨l1, l2, hl, hq, h, hu⟩
      exact .inr ⟨hu rfl, rfl, l1, l2, hl, hq, h⟩

/-! ### The status of a finishing request (R132, R133) -/

/-- R133: the policy is met. -/
theorem policyMet_iff (p : Policy) (l : List Member) :
    policyMet p (l.filter (·.outcome == some .done)).length l.length = true ↔ p.met l := by
  cases p with
  | all => simp [policyMet, Policy.met, List.length_filter_eq_length_iff]
  | any =>
    simp only [policyMet, Policy.met, decide_eq_true_eq, Nat.one_le_iff_ne_zero, ← Nat.pos_iff_ne_zero,
      List.length_filter_pos_iff, beq_iff_eq]
  | quorum n => simp [policyMet, Policy.met]

/-- Settles O58: the single member's outcome decides, or the group's policy. -/
theorem statusOfRequests : Obligations.StatusOfRequests := by
  intro x
  refine ⟨fun m o hp hm ho => ?_, fun p hp => ?_⟩
  · have e : contextStatus x = singleStatus o x.cancelRequested := by simp [contextStatus, hp, hm, ho]
    rw [e]
    exact ⟨fun h => if_pos h, fun h hc => (if_neg (by rintro rfl; simp at h)).trans (if_pos ⟨h, hc⟩),
      fun h1 h2 h3 => (if_neg h1).trans (if_neg fun h => h.1.elim h2 h3)⟩
  · have e : contextStatus x = groupStatus p x.members x.cancelRequested := by simp [contextStatus, hp]
    rw [e]
    have withdrawn : (x.cancelRequested = true ∧ x.members.any (fun m => m.outcome == some .cancelled ||
        m.outcome == some .aborted) = true) ↔ x.cancelRequested = true ∧
        ∃ m ∈ x.members, m.outcome = some .cancelled ∨ m.outcome = some .aborted := by simp
    simp only [groupStatus, withdrawn]
    exact ⟨fun h => if_pos h, fun h hm => (if_neg h).trans (if_pos ((policyMet_iff p x.members).2 hm)),
      fun h hm => (if_neg h).trans (if_neg (mt (policyMet_iff p x.members).1 hm))⟩

/-! ### Submissions (R28 to R34) -/

/-- R29 step 1: the staging area read as a request, field by field. -/
theorem stagedRequest_eq_some {p : HostPort} {r : Request} : stagedRequest? p = some r ↔
    ∃ isGroup, kindOf? (p.stagingAt 1) = some r.kind ∧ boolOf? (p.stagingAt 2) = some isGroup ∧
      priorityOf? (p.stagingAt 4) = some r.priority ∧
      targetOf? isGroup (p.stagingAt 3) = some r.target ∧
      ((p.stagingAt 5).toNat ≤ 7 ∧ (p.stagingAt 8).toNat ≤ 32 ∧ (p.stagingAt 9).toNat ≤ 32) ∧
      r.tag = p.stagingAt 0 ∧ r.retryBudget = (p.stagingAt 5).toNat ∧
      r.deadline = BitVec.ofNat 16 (leNat [p.stagingAt 6, p.stagingAt 7]) ∧
      r.writeData = (p.staging.toList.drop 10).take (p.stagingAt 8).toNat ∧
      r.readLength = (p.stagingAt 9).toNat := by
  unfold stagedRequest?
  constructor
  · intro h
    split at h
    · next k g pr hk hg hp =>
      split at h
      · next t ht =>
        split at h
        · next hb =>
          cases h
          exact ⟨g, hk, hg, hp, ht, hb, rfl, rfl, rfl, rfl, rfl⟩
        · cases h
      · cases h
    · cases h
  · rintro ⟨g, hk, hg, hp, ht, hb, h1, h2, h3, h4, h5⟩
    rw [hk, hg, hp]
    dsimp only
    rw [ht]
    dsimp only
    rw [if_pos hb, ← h1, ← h2, ← h3, ← h4, ← h5]

/-- R29: TARGET by its number. -/
theorem targetOf_eq_some {isGroup : Bool} {v : Byte} {t : Target} : targetOf? isGroup v = some t ↔
    (isGroup = false ∧ ∃ n, t = .lt n ∧ v.toNat = n.val) ∨
      isGroup = true ∧ ∃ g, t = .group g ∧ v.toNat = g.val := by
  unfold targetOf?
  cases isGroup <;> simp [Option.map_eq_some_iff, indexOf_eq_some, and_comm, eq_comm (b := t)]

/-- R29: TARGET_IS_GROUP and TARGET in range. -/
theorem exists_targetOf_iff {x v : Byte} : (∃ g t, boolOf? x = some g ∧ targetOf? g v = some t) ↔
    x.toNat = 0 ∧ v.toNat ≤ 63 ∨ x.toNat = 1 ∧ v.toNat ≤ 7 := by
  simp only [boolOf_eq_some, targetOf_eq_some]
  constructor
  · rintro ⟨g, t, hg, ⟨rfl, n, -, hn⟩ | ⟨rfl, n, -, hn⟩⟩
    · exact .inl ⟨hg, by omega⟩
    · exact .inr ⟨hg, by omega⟩
  · rintro (⟨hg, hv⟩ | ⟨hg, hv⟩)
    · exact ⟨false, .lt ⟨v.toNat, by omega⟩, hg, .inl ⟨rfl, _, rfl, rfl⟩⟩
    · exact ⟨true, .group ⟨v.toNat, by omega⟩, hg, .inr ⟨rfl, _, rfl, rfl⟩⟩

theorem exists_priorityOf_iff {v : Byte} : (∃ p, priorityOf? v = some p) ↔ v.toNat ≤ 1 := by
  simp only [priorityOf_eq_some]
  constructor
  · rintro ⟨p, hp⟩
    split at hp <;> omega
  · intro h
    rcases (by omega : v.toNat = 0 ∨ v.toNat = 1) with h | h
    · exact ⟨.normal, h⟩
    · exact ⟨.urgent, h⟩

/-- Two bytes read as one 16-bit number. -/
theorem leNat_two (a b : Byte) : (BitVec.ofNat 16 (leNat [a, b])).toNat = a.toNat + 256 * b.toNat := by
  have ha := a.isLt
  have hb := b.isLt
  simp only [leNat, BitVec.toNat_ofNat]
  omega

/-- Settles O27: the field forms read what their bytes show. -/
theorem stagedRequestFields : Obligations.StagedRequestFields := by
  intro p
  refine ⟨?_, fun r h => ?_⟩
  · constructor
    · rintro ⟨r, h⟩
      obtain ⟨g, hk, hg, hp, ht, ⟨h5, h8, h9⟩, -⟩ := stagedRequest_eq_some.1 h
      obtain ⟨k1, k2⟩ := exists_kindOf_iff.1 ⟨_, hk⟩
      exact ⟨k1, k2, exists_targetOf_iff.1 ⟨g, _, hg, ht⟩, exists_priorityOf_iff.1 ⟨_, hp⟩, h5, h8, h9⟩
    · rintro ⟨k1, k2, ht, hp, h5, h8, h9⟩
      obtain ⟨k, hk⟩ := exists_kindOf_iff.2 ⟨k1, k2⟩
      obtain ⟨g, t, hg, ht⟩ := exists_targetOf_iff.2 ht
      obtain ⟨pr, hp⟩ := exists_priorityOf_iff.2 hp
      exact ⟨⟨_, k, t, pr, _, _, _, _⟩, stagedRequest_eq_some.2
        ⟨g, hk, hg, hp, ht, ⟨h5, h8, h9⟩, rfl, rfl, rfl, rfl, rfl⟩⟩
  · obtain ⟨g, hk, hg, hp, ht, ⟨h5, h8, h9⟩, e0, e5, e6, e10, e9⟩ := stagedRequest_eq_some.1 h
    rw [boolOf_eq_some] at hg
    have len : r.writeData.length = (look p.staging 8).toNat := by
      rw [e10]
      simp only [List.length_take, List.length_drop, Vector.length_toList]
      exact Nat.min_eq_left (by have : (p.stagingAt 8).toNat ≤ 32 := h8; omega)
    refine ⟨e0, kindOf_eq_some.1 hk, ?_, fun n hn => ?_, fun n hn => ?_, priorityOf_eq_some.1 hp, e5.symm,
      e5 ▸ h5, ?_, len.symm, len ▸ h8, e9.symm, e9 ▸ h9, fun k hk h' => ?_⟩
    · have : r.isGroup = g := by
        rcases targetOf_eq_some.1 ht with ⟨rfl, n, hn, -⟩ | ⟨rfl, n, hn, -⟩ <;> simp [Request.isGroup, hn]
      rw [this]
      exact hg
    · rcases targetOf_eq_some.1 ht with ⟨-, m, hm, v⟩ | ⟨-, m, hm, -⟩
      · cases hm.symm.trans hn
        exact v
      · cases hm.symm.trans hn
    · rcases targetOf_eq_some.1 ht with ⟨-, m, hm, -⟩ | ⟨-, m, hm, v⟩
      · cases hm.symm.trans hn
      · cases hm.symm.trans hn
        exact v
    · rw [e6]
      exact leNat_two _ _
    · simp only [e10, List.getElem_take, List.getElem_drop, Vector.getElem_toList]
      rfl

end Sys2Proof.Machine
end


section
/-! Submissions, device reset, the timebase and the backoff (R28 to R34, R103, R142, R184, R185). -/

namespace Sys2Proof.Machine

/-! ### The checks of a submission -/

/-- TABLE 14: the lengths match KIND. -/
theorem lengthsOk_iff (r : Request) : r.lengthsOk = true ↔ r.lengthsMatch := by
  unfold Request.lengthsOk Request.lengthsMatch
  cases r.kind <;> exact decide_eq_true_iff

/-- R29 step 2: a group request of another KIND fails. -/
theorem groupKindOk_iff (r : Request) : r.groupKindOk = true ↔
    (r.isGroup = true → r.kind = .write ∨ r.kind = .probe) := by
  cases h : r.isGroup <;> simp [Request.groupKindOk, h]

/-- R30: the target can take a request. -/
theorem targetOk_iff (s : State) (r : Request) : targetOk s r = true ↔ ¬ s.refusesTarget r.target := by
  cases h : r.target with
  | lt n =>
    cases hb : (s.entry n).binding <;> simp [targetOk, State.refusesTarget, h, hb]
  | group g => simp [targetOk, State.refusesTarget, h]

/-- R31: the tags held. -/
theorem mem_heldTags_iff (s : State) (tag : Byte) : tag ∈ heldTags s ↔ s.holdsTag tag := by
  simp [heldTags, State.holdsTag, State.ctx, toList_eq_map_look]

/-- R34: a refusal is reported and nothing else. -/
theorem submission_refused {s : State} {c : SubmitResult} (h : submitCheck s = c) (hc : c ≠ .accepted) :
    submission s = reportSubmit c s := by
  unfold submission
  rw [h]
  cases c <;> first | rfl | exact absurd rfl hc

/-- R33: an acceptance joins the RQ and is handed to the dispatcher. -/
theorem submission_accepted {s : State} {r : Request} (h : submitCheck s = .accepted)
    (hr : stagedRequest? s.port = some r) :
    submission s = examine (reportSubmit .accepted (acceptRequest r s)) := by
  unfold submission
  rw [h, hr]

/-- Settles O28, one check after another. -/
theorem submitByCheck : Obligations.SubmitByCheck := by
  intro s rest h
  dsimp only
  have staged : stagedRequest? (s.leaving rest).port = stagedRequest? s.port := rfl
  have at_hand : exec .submit s = finish (submission (s.leaving rest)) :=
    congrArg finish (takeAction_at submission h)
  have refuse {c : SubmitResult} (hc : submitCheck (s.leaving rest) = c) (ha : c ≠ .accepted) :
      exec .submit s = finish { s with port := { s.port with
        actions := rest, submitResult := c, submitCount := s.rq.length } } :=
    at_hand.trans (congrArg finish (submission_refused hc ha))
  refine ⟨fun hn => refuse (by rw [submitCheck, staged, hn]) nofun, fun r hr => ?_⟩
  have check : submitCheck (s.leaving rest) = if !r.groupKindOk then .groupKind
      else if !r.lengthsOk then .badFormat else requestCheck s r := by
    rw [submitCheck, staged, hr]
    rfl
  refine ⟨fun hg h1 h2 => refuse (check.trans (if_pos ?_)) nofun, fun hg => ?_⟩
  · rw [Bool.not_eq_true', Bool.eq_false_iff, ne_eq, groupKindOk_iff]
    exact fun k => (k hg).elim h1 h2
  rw [(groupKindOk_iff r).2 hg, Bool.not_true, if_neg Bool.false_ne_true] at check
  refine ⟨fun hl => refuse (check.trans (if_pos ?_)) nofun, ?_⟩
  · rw [Bool.not_eq_true', Bool.eq_false_iff, ne_eq, lengthsOk_iff]
    exact hl
  have passed (hl : r.lengthsMatch) : submitCheck (s.leaving rest) = requestCheck s r := by
    rw [check, (lengthsOk_iff r).2 hl]
    rfl
  have target (ht : ¬ s.refusesTarget r.target) : ¬ (!targetOk s r) = true := by
    rw [(targetOk_iff s r).2 ht]
    exact Bool.false_ne_true
  refine ⟨fun hl ht => ?_, fun hl ht hh => ?_, fun hl ht hh hf => ?_, fun hl ht hh hf => ?_⟩
  · refine refuse ((passed hl).trans (if_pos ?_)) nofun
    rw [Bool.not_eq_true', Bool.eq_false_iff, ne_eq, targetOk_iff, not_not]
    exact ht
  · exact refuse ((passed hl).trans ((if_neg (target ht)).trans
      (if_pos ((mem_heldTags_iff s _).2 hh)))) nofun
  · exact refuse ((passed hl).trans ((if_neg (target ht)).trans
      ((if_neg (mt (mem_heldTags_iff s _).1 hh)).trans (if_pos hf)))) nofun
  · have accepted : submitCheck (s.leaving rest) = .accepted :=
      (passed hl).trans ((if_neg (target ht)).trans
        ((if_neg (mt (mem_heldTags_iff s _).1 hh)).trans (if_neg (Nat.not_le.2 hf))))
    rw [at_hand, submission_accepted accepted hr, reportSubmit, acceptRequest]
    simp only [List.length_append, List.length_singleton]
    rfl

/-! ### Device reset -/

/-- R97: a segment at device reset. -/
theorem segmentAtReset_deviceReset (g : Segment) : segmentAtReset g g.deviceReset :=
  ⟨rfl, rfl, rfl, rfl, rfl, rfl, rfl, rfl, rfl, rfl⟩

/-- R183: with every enable 0, IRQ_N is released. -/
theorem irqLevel_disabled {s : State} (h : s.irq.enables = 0) : irqLevel s = true := by
  simp [irqLevel, h]

/-- R185: what device reset leaves of the state `s`, read before the action at hand was taken. -/
theorem afterDeviceReset_of {s u t : State} (hq : u.pending = s.pending)
    (hc : u.port.csN = s.port.csN) (hs : u.segs = s.segs)
    (ht : t = deviceReset u ∨ t = setResetN false (deviceReset u)) : afterDeviceReset s (judgeIrq t) := by
  have segs (i : SegId) : segmentAtReset (s.seg i) ((deviceReset u).seg i) := by
    rw [seg_deviceReset, State.seg, State.seg, hs]
    exact segmentAtReset_deviceReset _
  have irq {v : State} (h : v.irq = InterruptUnit.reset) : (judgeIrq v).irq = ⟨false, false, 0, true⟩ := by
    rw [judgeIrq, irqLevel_disabled (by rw [h]; rfl), h]
    rfl
  rcases ht with rfl | rfl
  all_goals exact ⟨hq, hc, rfl, rfl, rfl, fun k => look_replicate 0 k, rfl, rfl, rfl, rfl,
    fun k => look_replicate 0 k, rfl, rfl, irq rfl, entry_deviceReset u, look_deviceReset_groups u, rfl, rfl,
    ctx_deviceReset u, slot_deviceReset u, segs, sv_deviceReset u, mirrorSlot_deviceReset u, rfl, rfl⟩

/-- Settles O18: every block is written afresh, by the action and by the pin. -/
theorem deviceResetValues : Obligations.DeviceResetValues := fun _ =>
  ⟨fun _ soft => ⟨_, exec_softReset_at soft, afterDeviceReset_of rfl rfl rfl (.inl rfl), rfl⟩,
    fun high => ⟨_, exec_deviceReset_high high, afterDeviceReset_of rfl rfl rfl (.inr rfl), rfl⟩⟩

/-! ### The timebase -/

/-- R119: one line of a segment at a tick. -/
theorem atTick_high (l : Line) (high moved : Bool) : (l.atTick high moved).high = high := by
  unfold Line.atTick
  split <;> rfl

theorem atTick_steady (l : Line) (high moved : Bool) : (l.atTick high moved).steady =
    if moved = true ∨ l.high ≠ high then 0 else l.steady + 1 := by
  unfold Line.atTick
  split <;> rfl

/-- R119: a segment at a tick is itself but for the levels seen and the line times. -/
theorem tickLines_spec (g : Segment) (l : TickLines) :
    g.tickLines l = { g with clockLine := (g.tickLines l).clockLine, dataLine := (g.tickLines l).dataLine } ∧
      (g.tickLines l).clockLine.high = l.clock ∧ (g.tickLines l).dataLine.high = l.data ∧
      (g.tickLines l).clockLine.steady = (if l.clockMoved = true ∨ g.clockLine.high ≠ l.clock then 0
        else g.clockLine.steady + 1) ∧
      (g.tickLines l).dataLine.steady = (if l.dataMoved = true ∨ g.dataLine.high ≠ l.data then 0
        else g.dataLine.steady + 1) :=
  ⟨rfl, atTick_high _ _ _, atTick_high _ _ _, atTick_steady _ _ _, atTick_steady _ _ _⟩

/-- R184: a tick with RESET_N high takes the segments one after another, each as it stood. -/
theorem tick_high {s : State} (l0 l1 l2 l3 : TickLines) (h : s.port.resetN = true) :
    tick l0 l1 l2 l3 s = ((((advanceTick s).putSeg 0 ((s.seg 0).tickLines l0)).putSeg
      1 ((s.seg 1).tickLines l1)).putSeg 2 ((s.seg 2).tickLines l2)).putSeg
        3 ((s.seg 3).tickLines l3) := by
  have seg (i : SegId) : (advanceTick s).seg i = s.seg i := rfl
  rw [tick, if_pos h]
  simp only [tickSegment, State.seg_putSeg, seg, if_neg (show (2 : SegId) ≠ 3 by decide),
    if_neg (show (1 : SegId) ≠ 3 by decide), if_neg (show (0 : SegId) ≠ 3 by decide),
    if_neg (show (1 : SegId) ≠ 2 by decide), if_neg (show (0 : SegId) ≠ 2 by decide),
    if_neg (show (0 : SegId) ≠ 1 by decide)]

/-- Settles O45, by RESET_N and by the ticks counted. -/
theorem timebaseCounts : Obligations.TimebaseCounts := by
  refine ⟨fun s l0 l1 l2 l3 => ⟨rfl, fun low => ?_⟩, fun s high => ⟨fun l0 l1 l2 l3 => ?_, fun h => ?_,
    fun h => ?_⟩⟩
  · have off : ¬ s.port.resetN = true := by simp [low]
    exact ⟨congrArg finish (if_neg off), congrArg finish (if_neg fun h => off h.1)⟩
  · refine ⟨_, _, _, _, congrArg finish (tick_high l0 l1 l2 l3 high), ?_⟩
    simp only [List.forall_mem_cons, List.not_mem_nil, false_imp_iff, implies_true, and_true]
    exact ⟨tickLines_spec _ _, tickLines_spec _ _, tickLines_spec _ _, tickLines_spec _ _⟩
  · exact congrArg finish (if_pos ⟨high, h⟩)
  · exact congrArg finish (if_neg fun k => absurd k.2 (Nat.not_le.2 h))

/-! ### Backoff -/

/-- R103, R184: a backoff over `gap` ticks has run when as many ticks have passed, whatever the wrap. -/
theorem backoffOver_iff (now start gap : Word16) :
    backoffOver now start (start + gap) = true ↔ gap.toNat ≤ (now - start).toNat := by
  have : start + gap - start = gap := by bv_omega
  simp [backoffOver, elapsed, this]

theorem expireBackoff_before {s : State} {k : SlotId} {o : OpSlot} {start expiry : Word16}
    (h : s.slot k = some o) (hs : o.state = .backoff start expiry)
    (hb : ¬ backoffOver s.timebase.tick start expiry = true) : expireBackoff k s = s := by
  simp [expireBackoff, h, hs, hb]

theorem expireBackoff_over {s : State} {k : SlotId} {o : OpSlot} {start expiry : Word16}
    (h : s.slot k = some o) (hs : o.state = .backoff start expiry)
    (hb : backoffOver s.timebase.tick start expiry = true) :
    expireBackoff k s = opportunity o.segment (s.putSlot k (some { o with state := .pending })) := by
  simp [expireBackoff, h, hs, hb]

theorem expireBackoff_none {s : State} {k : SlotId}
    (h : ∀ o, s.slot k = some o → ∀ a b, o.state ≠ .backoff a b) : expireBackoff k s = s := by
  unfold expireBackoff
  cases ho : s.slot k with
  | none => rfl
  | some o =>
    cases hs : o.state with
    | backoff a b => exact absurd hs (h o ho a b)
    | pending | active _ => simp [hs]

/-- Settles O46: the gap elapsed decides, and a segment that is not IDLE grants nothing. -/
theorem backoffExpires : Obligations.BackoffExpires := by
  refine fun s k => ⟨fun h => congrArg finish (expireBackoff_none h), fun o start gap h hs =>
    ⟨fun before => congrArg finish (expireBackoff_before h hs ?_), fun reached busy =>
      congrArg finish ((expireBackoff_over h hs ?_).trans (opportunity_notIdle busy))⟩⟩
  · rw [backoffOver_iff]
    exact Nat.not_le.2 before
  · exact (backoffOver_iff _ _ _).2 reached

end Sys2Proof.Machine
end


section
/-! The control commands by their checks (R4, R20, R74, R126, R149, R151, R172): the arguments as they
are read, and what each check answers. -/

namespace Sys2Proof.Machine

/-! ### What the actions still to take leave alone -/

@[simp] theorem leaving_entry (s : State) (l : List Action) (lt : LtId) :
    (s.leaving l).entry lt = s.entry lt := rfl
@[simp] theorem leaving_seg (s : State) (l : List Action) (i : SegId) : (s.leaving l).seg i = s.seg i := rfl
@[simp] theorem leaving_sv (s : State) (l : List Action) (n : SvId) : (s.leaving l).sv n = s.sv n := rfl
@[simp] theorem leaving_arg (s : State) (l : List Action) (k : Fin 60) :
    (s.leaving l).arg k = s.arg k := rfl

/-! ### MAP_SET -/

/-- R4 check 1: the arguments of MAP_SET, field by field. -/
theorem mapSetArgs_eq_some {s : State} {lt : LtId} {b : Binding} : mapSetArgs? s = some (lt, b) ↔
    (s.arg 0).toNat = lt.val ∧ (s.arg 1).toNat = b.segment.val ∧ busAddrOf? (s.arg 2) = some b.address ∧
      (s.arg 4).toNat = (if b.autoReinstate then 1 else 0) ∧ (s.arg 3).toNat ≤ 15 ∧ b.state = .active ∧
      b.threshold = (s.arg 3).toNat := by
  rw [← boolOf_eq_some, ← indexOf_eq_some, ← indexOf_eq_some]
  unfold mapSetArgs? State.argLt?
  constructor
  · intro h
    split at h
    · next h0 h1 h2 h4 =>
      split at h
      · next h3 =>
        cases h
        exact ⟨h0, h1, h2, h4, h3, rfl, rfl⟩
      · cases h
    · cases h
  · rintro ⟨h0, h1, h2, h4, h3, ha, ht⟩
    rw [h0, h1, h2, h4]
    dsimp only
    rw [if_pos h3, ← ha, ← ht]

/-- R4 check 4: for an entry that is FREE the other entries that hold the address are all that do. -/
theorem addressTaken_iff {s : State} {lt : LtId} {b : Binding} (h : (s.entry lt).binding = none) :
    addressTaken s lt b = true ↔ s.bound b.segment b.address := by
  unfold addressTaken State.bound
  rw [List.any_eq_true]
  constructor
  · rintro ⟨m, -, hm⟩
    cases hx : (s.entry m).binding with
    | none => simp [hx] at hm
    | some x =>
      simp only [hx, Bool.and_eq_true, beq_iff_eq] at hm
      exact ⟨m, x, hx, hm.2⟩
  · rintro ⟨m, x, hx, seg, addr⟩
    have hne : m ≠ lt := by
      rintro rfl
      cases h.symm.trans hx
    exact ⟨m, List.mem_finRange m, by simp [hne, hx, seg, addr]⟩

theorem mapSet_refused {s : State} {lt : LtId} {b : Binding} {r : CommandResult}
    (h : mapSetArgs? s = some (lt, b)) (hc : mapSetCheck s lt b = r) (hr : r ≠ .done) :
    mapSet s = s.answered r := by
  unfold mapSet
  rw [h]
  dsimp only
  rw [hc]
  cases r <;> first | rfl | exact absurd rfl hr

theorem mapSet_done {s : State} {lt : LtId} {b : Binding}
    (h : mapSetArgs? s = some (lt, b)) (hc : mapSetCheck s lt b = .done) :
    mapSet s = (examine (s.putEntry lt ⟨some b, 0, 0⟩)).answered .done := by
  unfold mapSet
  rw [h]
  dsimp only
  rw [hc]
  rfl

/-- Settles O31, one check of TABLE 7 after another. -/
theorem mapSetChecks : Obligations.MapSetChecks := by
  intro s rest h
  dsimp only
  have at_hand : exec .mapSet s = finish (mapSet (s.leaving rest)) :=
    congrArg finish (takeCommand_at (codeIs 0x01) mapSet h rfl)
  refine ⟨fun bad => at_hand.trans (congrArg finish ?_), fun lt seg addr auto h0 h1 h2 hr h3 h4 => ?_⟩
  · have : mapSetArgs? (s.leaving rest) = none := by
      rw [Option.eq_none_iff_forall_ne_some]
      rintro ⟨lt, b⟩ he
      obtain ⟨e0, e1, e2, e4, e3, -⟩ := mapSetArgs_eq_some.1 he
      rw [leaving_arg] at e0 e1 e2 e3 e4
      have range : ¬ ((s.arg 2).toNat < 0x08 ∨ 0x77 < (s.arg 2).toNat) :=
        mt busAddrOf_eq_none.2 (by rw [e2]; exact nofun)
      have := lt.isLt
      have := b.segment.isLt
      split at e4 <;> omega
    rw [mapSet, this]
    rfl
  · have args : mapSetArgs? (s.leaving rest) = some (lt, ⟨.active, seg, addr, (s.arg 3).toNat, auto⟩) :=
      mapSetArgs_eq_some.2 ⟨h0, h1, busAddrOf_eq_some h2 hr, h4, h3, rfl, rfl⟩
    have taken (free : (s.entry lt).binding = none) := addressTaken_iff (s := s.leaving rest)
      (b := ⟨.active, seg, addr, (s.arg 3).toNat, auto⟩) free
    refine ⟨fun bad => ?_, fun ok bound => ?_, fun ok free conflict => ?_, fun ok free clear => ?_⟩
    · exact at_hand.trans (congrArg finish (mapSet_refused args (if_pos bad) nofun))
    · exact at_hand.trans (congrArg finish (mapSet_refused args
        ((if_neg ok).trans (if_pos (Option.isSome_iff_ne_none.2 bound))) nofun))
    · exact at_hand.trans (congrArg finish (mapSet_refused args ((if_neg ok).trans
        ((if_neg (by rw [leaving_entry, free]; exact Bool.false_ne_true)).trans
          (if_pos ((taken free).2 conflict)))) nofun))
    · exact at_hand.trans (congrArg finish (mapSet_done args ((if_neg ok).trans
        ((if_neg (by rw [leaving_entry, free]; exact Bool.false_ne_true)).trans
          (if_neg (mt (taken free).1 clear))))))

/-! ### GROUP_SET -/

/-- R20 check 1: a group above 7. -/
theorem groupSetArgs_noGroup {s : State} (h : 7 < (s.arg 0).toNat) : groupSetArgs? s = none := by
  unfold groupSetArgs? State.argGroup?
  rw [indexOf_eq_none.2 h]

/-- R20: the checks of GROUP_SET on a group that exists. -/
theorem groupSetArgs_of {s : State} {g : GroupId} (h : (s.arg 0).toNat = g.val) : groupSetArgs? s =
    if bitCount (s.argMask 1) > 16 then none
    else if (s.arg 9).toNat = 0 then some (g, ⟨s.argMask 1, .all⟩)
    else if (s.arg 9).toNat = 1 then some (g, ⟨s.argMask 1, .any⟩)
    else if (s.arg 9).toNat = 2 then
      if (s.arg 10).toNat = 0 ∨ (s.arg 10).toNat > bitCount (s.argMask 1) then none
      else some (g, ⟨s.argMask 1, .quorum (s.arg 10).toNat⟩)
    else none := by
  unfold groupSetArgs? State.argGroup?
  rw [indexOf_eq_some.2 h]
  simp only [byte_eq_iff]

theorem groupSet_refused {s : State} (h : groupSetArgs? s = none) : groupSet s = s.answered .badArgument := by
  rw [groupSet, h]
  rfl

theorem groupSet_done {s : State} {g : GroupId} {x : Group} (h : groupSetArgs? s = some (g, x)) :
    groupSet s = (examine { s with groups := put s.groups g x }).answered .done := by
  rw [groupSet, h]
  rfl

/-- Settles O35, by the checks of R20. -/
theorem groupSetChecks : Obligations.GroupSetChecks := by
  intro s rest h
  dsimp only
  have at_hand : exec .groupSet s = finish (groupSet (s.leaving rest)) :=
    congrArg finish (takeCommand_at (codeIs 0x05) groupSet h rfl)
  have size : ((List.finRange 64).filter fun n => (s.argMask 1).getLsbD n.val).length =
    bitCount (s.argMask 1) := rfl
  rw [size]
  refine ⟨fun bad => at_hand.trans (congrArg finish (groupSet_refused ?_)), fun g hg hs => ?_⟩
  · by_cases hg : 7 < (s.arg 0).toNat
    · exact groupSetArgs_noGroup hg
    · refine (groupSetArgs_of (g := ⟨(s.arg 0).toNat, by omega⟩) rfl).trans ?_
      split_ifs <;> first | rfl | omega
  · have args := groupSetArgs_of (s := s.leaving rest) (g := g) hg
    refine ⟨fun h9 => ?_, fun h9 => ?_, fun h9 h1 h2 => ?_⟩
    · exact at_hand.trans (congrArg finish (groupSet_done (args.trans
        ((if_neg (Nat.not_lt.2 hs)).trans (if_pos h9)))))
    · refine at_hand.trans (congrArg finish (groupSet_done (args.trans
        ((if_neg (Nat.not_lt.2 hs)).trans ((if_neg ?_).trans (if_pos h9))))))
      rw [leaving_arg]; omega
    · refine at_hand.trans (congrArg finish (groupSet_done (args.trans
        ((if_neg (Nat.not_lt.2 hs)).trans ((if_neg ?_).trans ((if_neg ?_).trans
          ((if_pos h9).trans (if_neg ?_))))))))
      · rw [leaving_arg]; omega
      · rw [leaving_arg]; omega
      · change ¬ ((s.arg 10).toNat = 0 ∨ (s.arg 10).toNat > bitCount (s.argMask 1))
        omega

/-! ### SEGMENT_CONFIG -/

/-- R74 check 1: the arguments of SEGMENT_CONFIG, field by field. -/
theorem segConfigArgs_eq_some {s : State} {i : SegId} {c : SegConfig} : segConfigArgs? s = some (i, c) ↔
    (s.arg 0).toNat = i.val ∧ speedOf? (s.arg 1) = some c.speed ∧
      busAddrOf? (s.arg 7) = some c.alertAddress ∧ boolOf? (s.arg 8) = some c.alertEnable ∧
      (s.arg 2 ≠ 0 ∧ s.arg 3 ≠ 0 ∧ s.arg 4 ≠ 0 ∧ s.arg 6 ≠ 0 ∧ (s.arg 6).toNat ≤ 8) ∧
      c.stretchLimit = (s.arg 2).toNat ∧ c.busyLimit = (s.arg 3).toNat ∧
      c.stuckTime = (s.arg 4).toNat ∧ c.retryGap = (s.arg 5).toNat ∧
      c.surveyShare = (s.arg 6).toNat := by
  rw [← indexOf_eq_some]
  unfold segConfigArgs? State.argSeg?
  constructor
  · intro h
    split at h
    · next h0 h1 h7 h8 =>
      split at h
      · next ok =>
        cases h
        exact ⟨h0, h1, h7, h8, ok, rfl, rfl, rfl, rfl, rfl⟩
      · cases h
    · cases h
  · rintro ⟨h0, h1, h7, h8, ok, e2, e3, e4, e5, e6⟩
    rw [h0, h1, h7, h8]
    dsimp only
    rw [if_pos ok, ← e2, ← e3, ← e4, ← e5, ← e6]

/-- R74 check 3: the reverse lookup finds an address that is bound. -/
theorem addressBound_iff (s : State) (i : SegId) (a : BusAddr) : addressBound s i a = true ↔ s.bound i a := by
  constructor
  · intro h
    obtain ⟨p, hp⟩ := Option.isSome_iff_exists.1 h
    obtain ⟨m, -, hm⟩ := List.exists_of_findSome?_eq_some hp
    cases hx : (s.entry m).binding with
    | none => simp [hx] at hm
    | some x =>
      simp only [hx] at hm
      split at hm
      · next at_ia => exact ⟨m, x, hx, at_ia.1, at_ia.2⟩
      · cases hm
  · rintro ⟨m, x, hx, seg, addr⟩
    rw [← Bool.not_eq_false]
    exact fun none => addressBound_false none m x hx seg addr

theorem segmentConfig_of {s : State} {i : SegId} {c : SegConfig} (h : segConfigArgs? s = some (i, c)) :
    segmentConfig s = if !(s.segState i).isDisabled then s.answered .inUse
      else if addressBound s i c.alertAddress then s.answered .conflict
      else (s.putSeg i { s.seg i with config := c }).answered .done := by
  rw [segmentConfig, h]
  rfl

/-- Settles O36, by the checks of R74. -/
theorem segmentConfigChecks : Obligations.SegmentConfigChecks := by
  intro s rest h
  dsimp only
  have at_hand : exec .segmentConfig s = finish (segmentConfig (s.leaving rest)) :=
    congrArg finish (takeCommand_at (codeIs 0x07) segmentConfig h rfl)
  refine ⟨fun bad => at_hand.trans (congrArg finish ?_),
    fun i speed addr enable h0 h1 h2 h3 h4 h6 h6' h7 hr h8 => ?_⟩
  · have : segConfigArgs? (s.leaving rest) = none := by
      rw [Option.eq_none_iff_forall_ne_some]
      rintro ⟨i, c⟩ he
      obtain ⟨e0, e1, e7, e8, ⟨e2, e3, e4, e6, e6'⟩, -⟩ := segConfigArgs_eq_some.1 he
      rw [leaving_arg] at e0 e1 e2 e3 e4 e6 e6' e7 e8
      have range : ¬ ((s.arg 7).toNat < 0x08 ∨ 0x77 < (s.arg 7).toNat) :=
        mt busAddrOf_eq_none.2 (by rw [e7]; exact nofun)
      have speed : ¬ 2 < (s.arg 1).toNat := mt speedOf_eq_none.2 (by rw [e1]; exact nofun)
      have bool : ¬ 1 < (s.arg 8).toNat := mt boolOf_eq_none.2 (by rw [e8]; exact nofun)
      have := i.isLt
      rcases bad with b | b | b | b | b | b | b | b | b | b
      · omega
      · exact speed b
      · exact e2 b
      · exact e3 b
      · exact e4 b
      · exact e6 b
      · omega
      · exact range (.inl b)
      · exact range (.inr b)
      · exact bool b
    rw [segmentConfig, this]
    rfl
  · have args : segConfigArgs? (s.leaving rest) = some (i, ⟨speed, (s.arg 2).toNat, (s.arg 3).toNat,
        (s.arg 4).toNat, (s.arg 5).toNat, (s.arg 6).toNat, addr, enable⟩) :=
      segConfigArgs_eq_some.2 ⟨h0, speedOf_eq_some.2 h1, busAddrOf_eq_some h7 hr, boolOf_eq_some.2 h8,
        ⟨h2, h3, h4, h6, h6'⟩, rfl, rfl, rfl, rfl, rfl⟩
    have bound := addressBound_iff (s.leaving rest) i addr
    have disabled (off : (s.seg i).state = .disabled) :
        ¬ (!((s.leaving rest).segState i).isDisabled) = true := by
      rw [segState_isDisabled.2 (show ((s.leaving rest).seg i).state = .disabled from off)]
      exact Bool.false_ne_true
    refine ⟨fun on => ?_, fun off taken => ?_, fun off clear => ?_⟩
    · refine at_hand.trans (congrArg finish ((segmentConfig_of args).trans (if_pos ?_)))
      rw [Bool.not_eq_true', Bool.eq_false_iff, ne_eq, segState_isDisabled]
      exact on
    · exact at_hand.trans (congrArg finish ((segmentConfig_of args).trans
        ((if_neg (disabled off)).trans (if_pos (bound.2 taken)))))
    · exact at_hand.trans (congrArg finish ((segmentConfig_of args).trans
        ((if_neg (disabled off)).trans (if_neg (mt bound.1 clear)))))

end Sys2Proof.Machine
end


section
/-! The control commands of the survey engine and of the alert input by their checks (R126, R149, R151,
R168, R172), and the copies of the tables (R17, R22, R152). -/

namespace Sys2Proof.Machine

/-! ### SURVEY_SET -/

/-- R149 check 1: MODE and the arguments it makes present. -/
theorem surveyModeArg_eq_some {s : State} {mode : SurveyMode} : surveyModeArg? s = some mode ↔
    (match mode with
      | .none => (s.arg 9).toNat = 0
      | .change k => (s.arg 9).toNat = 1 ∧ k = s.argMask 10
      | .window lo hi => (s.arg 9).toNat = 2 ∧ lo = s.argMask 18 ∧ hi = s.argMask 26 ∧
          lo.toNat ≤ hi.toNat) := by
  unfold surveyModeArg?
  simp only [byte_eq_iff]
  by_cases h0 : (s.arg 9).toNat = 0
  · cases mode <;> simp [h0]
  by_cases h1 : (s.arg 9).toNat = 1
  · cases mode <;> simp [h1, eq_comm]
  by_cases h2 : (s.arg 9).toNat = 2
  · by_cases inverted : (s.argMask 26).toNat < (s.argMask 18).toNat
    · rw [if_neg h0, if_neg h1, if_pos h2, if_pos inverted]
      cases mode with
      | none => simp [h2]
      | change k => simp [h2]
      | window lo hi =>
        refine iff_of_false nofun ?_
        rintro ⟨-, rfl, rfl, h⟩
        omega
    · rw [if_neg h0, if_neg h1, if_pos h2, if_neg inverted]
      cases mode with
      | none => simp [h2]
      | change k => simp [h2]
      | window lo hi =>
        constructor
        · intro e
          cases e
          exact ⟨h2, rfl, rfl, Nat.not_lt.1 inverted⟩
        · rintro ⟨-, rfl, rfl, h⟩
          rfl
  · rw [if_neg h0, if_neg h1, if_neg h2]
    cases mode <;> simp only [h0, h1, h2, false_and, reduceCtorEq]

/-- R149 check 1: the arguments of SURVEY_SET, field by field. -/
theorem surveySetArgs_eq_some {s : State} {n : SvId} {c : SurveyConf} : surveySetArgs? s = some (n, c) ↔
    ∃ present, (s.arg 0).toNat = n.val ∧ (s.arg 1).toNat = c.lt.val ∧ boolOf? (s.arg 2) = some present ∧
      boolOf? (s.arg 35) = some c.notifyFirst ∧ surveyModeArg? s = some c.mode ∧
      (s.arg 4 ≠ 0 ∧ (s.arg 4).toNat ≤ 8 ∧ s.argWord 5 ≠ 0 ∧ s.arg 34 ≠ 0 ∧ (s.arg 34).toNat ≤ 15) ∧
      c.selector = (if present then some (s.arg 3) else none) ∧ c.length = (s.arg 4).toNat ∧
      c.period = s.argWord 5 ∧ c.startOffset = s.argWord 7 ∧ c.failThreshold = (s.arg 34).toNat := by
  simp only [← indexOf_eq_some]
  unfold surveySetArgs? State.argSv?
  constructor
  · intro h
    split at h
    · next p _ _ h0 h1 h2 h35 hm =>
      split at h
      · next ok =>
        cases h
        exact ⟨p, h0, h1, h2, h35, hm, ok, rfl, rfl, rfl, rfl, rfl⟩
      · cases h
    · cases h
  · rintro ⟨p, h0, h1, h2, h35, hm, ok, e3, e4, e5, e7, e34⟩
    rw [h0, h1, h2, h35, hm]
    dsimp only
    rw [if_pos ok, ← e3, ← e4, ← e5, ← e7, ← e34]

/-- R149 check 2: the entry is started. -/
theorem started_iff (s : State) (n : SvId) : (s.svRun n).any SurveyRun.started = true ↔ s.started n := by
  unfold State.started
  cases s.svRun n with
  | none => simp
  | some r => cases r <;> simp [SurveyRun.started]

theorem surveySet_of {s : State} {n : SvId} {c : SurveyConf} (h : surveySetArgs? s = some (n, c)) :
    surveySet s = if (s.svRun n).any SurveyRun.started then s.answered .inUse
      else if (s.entry c.lt).binding.isNone then s.answered .badArgument
      else (setSurvey n c s).answered .done := by
  rw [surveySet, h]
  rfl

/-- Settles O40, by the checks of R149. -/
theorem surveySetChecks : Obligations.SurveySetChecks := by
  intro s rest h
  dsimp only
  have at_hand : exec .surveySet s = finish (surveySet (s.leaving rest)) :=
    congrArg finish (takeCommand_at (codeIs 0x0C) surveySet h rfl)
  refine ⟨fun bad => at_hand.trans (congrArg finish ?_),
    fun n lt present first mode h0 h1 h2 h35 h4 h4' h5 h34 h34' hm => ?_⟩
  · have : surveySetArgs? (s.leaving rest) = none := by
      rw [Option.eq_none_iff_forall_ne_some]
      rintro ⟨n, c⟩ he
      obtain ⟨p, e0, e1, e2, e35, em, ⟨e4, e4', e5, e34, e34'⟩, -⟩ := surveySetArgs_eq_some.1 he
      rw [leaving_arg] at e0 e1 e2 e35 e4 e4' e34 e34'
      rw [boolOf_eq_some] at e2 e35
      have mode : (s.arg 9).toNat ≤ 2 ∧
          ((s.arg 9).toNat = 2 → (s.argMask 18).toNat ≤ (s.argMask 26).toNat) := by
        have em : _ := surveyModeArg_eq_some (s := s).1 em
        revert em
        cases c.mode with
        | none => exact fun (e : (s.arg 9).toNat = 0) => by omega
        | change k => exact fun (e : (s.arg 9).toNat = 1 ∧ _) => by omega
        | window lo hi =>
          rintro ⟨e, rfl, rfl, le⟩
          exact ⟨e.le, fun _ => le⟩
      have := n.isLt
      have := c.lt.isLt
      have yesNo : ∀ b : Bool, (if b then 1 else 0) ≤ 1 := by decide
      have := yesNo p
      have := yesNo c.notifyFirst
      rcases bad with b | b | b | b | b | b | b | b | b | b | b
      · omega
      · omega
      · omega
      · omega
      · exact e4 b
      · omega
      · exact e5 b
      · omega
      · exact e34 b
      · omega
      · exact absurd (mode.2 b.1) (Nat.not_le.2 b.2)
    rw [surveySet, this]
    rfl
  · have args : surveySetArgs? (s.leaving rest) = some (n, ⟨lt, if present then some (s.arg 3) else none,
        (s.arg 4).toNat, s.argWord 5, s.argWord 7, mode, (s.arg 34).toNat, first⟩) :=
      surveySetArgs_eq_some.2 ⟨present, h0, h1, boolOf_eq_some.2 h2, boolOf_eq_some.2 h35,
        surveyModeArg_eq_some.2 hm, ⟨h4, h4', h5, h34, h34'⟩, rfl, rfl, rfl, rfl, rfl⟩
    have started : ((s.leaving rest).svRun n).any SurveyRun.started = true ↔ s.started n := started_iff s n
    have answers := at_hand.trans (congrArg finish (surveySet_of args))
    refine ⟨fun on => ?_, fun off free => ?_, fun off bound => ?_⟩
    · exact answers.trans (congrArg finish (if_pos (started.2 on)))
    · exact answers.trans (congrArg finish ((if_neg (mt started.1 off)).trans
        (if_pos (Option.isNone_iff_eq_none.2 free))))
    · exact answers.trans (congrArg finish ((if_neg (mt started.1 off)).trans
        (if_neg (mt Option.isNone_iff_eq_none.1 bound))))

/-! ### SURVEY_STOP -/

theorem svRun_of {s : State} {n : SvId} {u : SurveySetup} (h : (s.sv n).setup = some u) :
    s.svRun n = some u.run := by
  simp [State.svRun, h]

theorem surveyStop_of {s : State} {n : SvId} (h : (s.arg 0).toNat = n.val) : surveyStop s =
    (match s.svRun n with
    | none => s.answered .notSet
    | some .orphaned => s.answered .notSet
    | some r => (stopSurvey n r s).answered .done) := by
  unfold surveyStop State.argSv?
  rw [indexOf_eq_some.2 h]
  rfl

/-- Settles O42, by the state of the entry. -/
theorem surveyStopByState : Obligations.SurveyStopByState := by
  intro s rest h
  dsimp only
  have at_hand : exec .surveyStop s = finish (surveyStop (s.leaving rest)) :=
    congrArg finish (takeCommand_at (codeIs 0x0E) surveyStop h rfl)
  refine ⟨fun bad => at_hand.trans (congrArg finish ?_), fun n hn => ⟨fun unused => ?_, fun c r hr => ?_⟩⟩
  · unfold surveyStop State.argSv?
    rw [leaving_arg, indexOf_eq_none.2 bad]
    rfl
  · have none : (s.leaving rest).svRun n = none := by simp [State.svRun, unused]
    refine at_hand.trans (congrArg finish ((surveyStop_of (s := s.leaving rest) hn).trans ?_))
    rw [none]
  · have run : (s.leaving rest).svRun n = some r := svRun_of (s := s.leaving rest) hr
    have put (q : SurveyRun) : (s.leaving rest).putSvRun n q =
        (s.leaving rest).putSv n { s.sv n with setup := some ⟨c, q⟩ } :=
      putSvRun_of (s := s.leaving rest) hr q
    have stops := at_hand.trans (congrArg finish (surveyStop_of (s := s.leaving rest) hn))
    rw [run] at stops
    cases r with
    | orphaned => exact stops
    | stopped => exact stops
    | waiting d => exact stops.trans (congrArg (fun t => finish (State.answered t .done)) (put .stopped))
    | held => exact stops.trans (congrArg (fun t => finish (State.answered t .done)) (put .stopped))
    | reading d x =>
      refine stops.trans (congrArg (fun t => finish (State.answered t .done)) ?_)
      by_cases hx : x = .orphaned
      · subst hx
        exact (putSv_self (s := s.leaving rest) hr).symm
      · rw [if_neg hx]
        exact (if_neg hx).trans (put _)
    | due d =>
      intro b hb
      refine stops.trans (congrArg (fun t => finish (State.answered t .done)) ?_)
      have seg : (s.leaving rest).svSeg n = some b.segment := by
        rw [svSeg_of (s := s.leaving rest) hr, leaving_entry, hb]
        rfl
      rw [stopSurvey, leaveDue_of seg, putSvRun_of (u := ⟨c, .due d⟩) (by simpa using hr)]
      rfl

end Sys2Proof.Machine
end


section
/-! The segment arbiter (R64, R92 to R96, R120, R154): the eligible operation, what each choice grants, and
the grant opportunities of the alert input and of its commands (R126, R168, R172). -/

namespace Sys2Proof.Machine

/-! ### Writes of different tables commute

One order for the writes of a state: slots, map, contexts, survey, mirror, segments, then what joins the NQ
and the CQ. -/

@[simp] theorem State.putSlot_putEntry (s : State) (lt : LtId) (e : MapEntry) (k : SlotId) (o : Option OpSlot) :
    (s.putEntry lt e).putSlot k o = (s.putSlot k o).putEntry lt e := rfl
@[simp] theorem State.putSlot_putCtx (s : State) (c : CtxId) (x : Option Context) (k : SlotId) (o : Option OpSlot) :
    (s.putCtx c x).putSlot k o = (s.putSlot k o).putCtx c x := rfl
@[simp] theorem State.putSlot_putSv (s : State) (n : SvId) (v : SurveyEntry) (k : SlotId) (o : Option OpSlot) :
    (s.putSv n v).putSlot k o = (s.putSlot k o).putSv n v := rfl
@[simp] theorem State.putSlot_putMirror (s : State) (m : SvId) (w : MirrorSlot) (k : SlotId) (o : Option OpSlot) :
    (s.putMirror m w).putSlot k o = (s.putSlot k o).putMirror m w := rfl
@[simp] theorem State.putSlot_putSeg (s : State) (i : SegId) (g : Segment) (k : SlotId) (o : Option OpSlot) :
    (s.putSeg i g).putSlot k o = (s.putSlot k o).putSeg i g := rfl
@[simp] theorem State.putEntry_putCtx (s : State) (c : CtxId) (x : Option Context) (lt : LtId) (e : MapEntry) :
    (s.putCtx c x).putEntry lt e = (s.putEntry lt e).putCtx c x := rfl
@[simp] theorem State.putEntry_putSv (s : State) (n : SvId) (v : SurveyEntry) (lt : LtId) (e : MapEntry) :
    (s.putSv n v).putEntry lt e = (s.putEntry lt e).putSv n v := rfl
@[simp] theorem State.putEntry_putMirror (s : State) (m : SvId) (w : MirrorSlot) (lt : LtId) (e : MapEntry) :
    (s.putMirror m w).putEntry lt e = (s.putEntry lt e).putMirror m w := rfl
@[simp] theorem State.putEntry_putSeg (s : State) (i : SegId) (g : Segment) (lt : LtId) (e : MapEntry) :
    (s.putSeg i g).putEntry lt e = (s.putEntry lt e).putSeg i g := rfl
@[simp] theorem State.putCtx_putSv (s : State) (n : SvId) (v : SurveyEntry) (c : CtxId) (x : Option Context) :
    (s.putSv n v).putCtx c x = (s.putCtx c x).putSv n v := rfl
@[simp] theorem State.putCtx_putMirror (s : State) (m : SvId) (w : MirrorSlot) (c : CtxId) (x : Option Context) :
    (s.putMirror m w).putCtx c x = (s.putCtx c x).putMirror m w := rfl
@[simp] theorem State.putCtx_putSeg (s : State) (i : SegId) (g : Segment) (c : CtxId) (x : Option Context) :
    (s.putSeg i g).putCtx c x = (s.putCtx c x).putSeg i g := rfl
@[simp] theorem State.putSv_putMirror (s : State) (m : SvId) (w : MirrorSlot) (n : SvId) (v : SurveyEntry) :
    (s.putMirror m w).putSv n v = (s.putSv n v).putMirror m w := rfl
@[simp] theorem State.putSv_putSeg (s : State) (i : SegId) (g : Segment) (n : SvId) (v : SurveyEntry) :
    (s.putSeg i g).putSv n v = (s.putSv n v).putSeg i g := rfl
@[simp] theorem State.putMirror_putSeg (s : State) (i : SegId) (g : Segment) (m : SvId) (w : MirrorSlot) :
    (s.putSeg i g).putMirror m w = (s.putMirror m w).putSeg i g := rfl
@[simp] theorem State.putSlot_withRecord (s : State) (r : CompletionRecord) (k : SlotId) (o : Option OpSlot) :
    (s.withRecord r).putSlot k o = (s.putSlot k o).withRecord r := rfl
@[simp] theorem State.putSlot_withNotice (s : State) (b : NoticeBody) (k : SlotId) (o : Option OpSlot) :
    (s.withNotice b).putSlot k o = (s.putSlot k o).withNotice b := rfl
@[simp] theorem State.putEntry_withRecord (s : State) (r : CompletionRecord) (lt : LtId) (e : MapEntry) :
    (s.withRecord r).putEntry lt e = (s.putEntry lt e).withRecord r := rfl
@[simp] theorem State.putEntry_withNotice (s : State) (b : NoticeBody) (lt : LtId) (e : MapEntry) :
    (s.withNotice b).putEntry lt e = (s.putEntry lt e).withNotice b := rfl
@[simp] theorem State.putCtx_withRecord (s : State) (r : CompletionRecord) (c : CtxId) (x : Option Context) :
    (s.withRecord r).putCtx c x = (s.putCtx c x).withRecord r := rfl
@[simp] theorem State.putCtx_withNotice (s : State) (b : NoticeBody) (c : CtxId) (x : Option Context) :
    (s.withNotice b).putCtx c x = (s.putCtx c x).withNotice b := rfl
@[simp] theorem State.putSv_withRecord (s : State) (r : CompletionRecord) (n : SvId) (v : SurveyEntry) :
    (s.withRecord r).putSv n v = (s.putSv n v).withRecord r := rfl
@[simp] theorem State.putSv_withNotice (s : State) (b : NoticeBody) (n : SvId) (v : SurveyEntry) :
    (s.withNotice b).putSv n v = (s.putSv n v).withNotice b := rfl
@[simp] theorem State.putMirror_withRecord (s : State) (r : CompletionRecord) (m : SvId) (w : MirrorSlot) :
    (s.withRecord r).putMirror m w = (s.putMirror m w).withRecord r := rfl
@[simp] theorem State.putMirror_withNotice (s : State) (b : NoticeBody) (m : SvId) (w : MirrorSlot) :
    (s.withNotice b).putMirror m w = (s.putMirror m w).withNotice b := rfl
@[simp] theorem State.putSeg_withRecord (s : State) (r : CompletionRecord) (i : SegId) (g : Segment) :
    (s.withRecord r).putSeg i g = (s.putSeg i g).withRecord r := rfl
@[simp] theorem State.putSeg_withNotice (s : State) (b : NoticeBody) (i : SegId) (g : Segment) :
    (s.withNotice b).putSeg i g = (s.putSeg i g).withNotice b := rfl
@[simp] theorem State.withNotice_withRecord (s : State) (r : CompletionRecord) (b : NoticeBody) :
    (s.withRecord r).withNotice b = (s.withNotice b).withRecord r := rfl

/-! ### The eligible operation (R64) -/

/-- R64: slot `k` is PENDING, and neither `seen` nor the slots `before` it name its LT. -/
def goesAfter (slots : SlotId → Option OpSlot) (seen : List LtId) (before : List SlotId) (k : SlotId) : Prop :=
  ∃ o, slots k = some o ∧ o.state = .pending ∧ o.lt ∉ seen ∧
    ∀ j ∈ before, ∀ p, slots j = some p → p.lt ≠ o.lt

theorem goesAfter_nil (s : State) (before : List SlotId) (k : SlotId) :
    goesAfter s.slot [] before k ↔ s.mayGo before k := by
  simp [goesAfter, State.mayGo]

/-- A slot passed counts among the LTs seen. -/
theorem goesAfter_cons {slots : SlotId → Option OpSlot} {seen : List LtId} {before : List SlotId}
    {k x : SlotId} {o : OpSlot} (h : slots x = some o) :
    goesAfter slots (o.lt :: seen) before k ↔ goesAfter slots seen (x :: before) k := by
  unfold goesAfter
  refine exists_congr fun p => and_congr_right fun _ => and_congr_right fun _ => ?_
  simp only [List.mem_cons, not_or, forall_eq_or_imp, h, Option.some.injEq, forall_eq']
  exact ⟨fun ⟨⟨a, b⟩, c⟩ => ⟨b, fun e => a e.symm, c⟩, fun ⟨b, a, c⟩ => ⟨⟨fun e => a e.symm, b⟩, c⟩⟩

theorem goesAfter_free {slots : SlotId → Option OpSlot} {seen : List LtId} {before : List SlotId}
    {k x : SlotId} (h : slots x = none) :
    goesAfter slots seen (x :: before) k ↔ goesAfter slots seen before k := by
  simp [goesAfter, h]

/-- With no slot that can go, none is eligible. -/
theorem eligibleFrom_none {slots : SlotId → Option OpSlot} : ∀ {l : List SlotId} {seen : List LtId},
    (∀ l1 k l2, l = l1 ++ k :: l2 → ¬ goesAfter slots seen l1 k) → eligibleFrom slots l seen = none
  | [], _, _ => rfl
  | x :: l, seen, h => by
    unfold eligibleFrom
    cases hx : slots x with
    | none =>
      refine eligibleFrom_none fun l1 k l2 hl => ?_
      rw [← goesAfter_free hx]
      exact h (x :: l1) k l2 (by rw [hl]; rfl)
    | some o =>
      have first : ¬ (o.state = .pending ∧ o.lt ∉ seen) := fun c =>
        h [] x l rfl ⟨o, hx, c.1, c.2, nofun⟩
      dsimp only
      rw [if_neg first]
      refine eligibleFrom_none fun l1 k l2 hl => ?_
      rw [goesAfter_cons hx]
      exact h (x :: l1) k l2 (by rw [hl]; rfl)

/-- The first slot that can go is eligible. -/
theorem eligibleFrom_first {slots : SlotId → Option OpSlot} {k : SlotId} {l2 : List SlotId} :
    ∀ {l1 : List SlotId} {seen : List LtId}, goesAfter slots seen l1 k →
      (∀ m1 j m2, l1 = m1 ++ j :: m2 → ¬ goesAfter slots seen m1 j) →
      eligibleFrom slots (l1 ++ k :: l2) seen = some k
  | [], seen, ⟨o, hk, hp, hs, _⟩, _ => by
    rw [List.nil_append, eligibleFrom, hk]
    dsimp only
    rw [if_pos ⟨hp, hs⟩]
  | x :: l1, seen, hk, h => by
    rw [List.cons_append, eligibleFrom]
    cases hx : slots x with
    | none =>
      refine eligibleFrom_first ((goesAfter_free hx).1 hk) fun m1 j m2 hl => ?_
      rw [← goesAfter_free hx]
      exact h (x :: m1) j m2 (by rw [hl]; rfl)
    | some o =>
      have first : ¬ (o.state = .pending ∧ o.lt ∉ seen) := fun c =>
        h [] x l1 rfl ⟨o, hx, c.1, c.2, nofun⟩
      dsimp only
      rw [if_neg first]
      refine eligibleFrom_first ((goesAfter_cons hx).2 hk) fun m1 j m2 hl => ?_
      rw [goesAfter_cons hx]
      exact h (x :: m1) j m2 (by rw [hl]; rfl)

theorem eligible_none {s : State} {i : SegId}
    (h : ∀ l1 k l2, (s.seg i).pendingList = l1 ++ k :: l2 → ¬ s.mayGo l1 k) : eligible i s = none :=
  eligibleFrom_none fun l1 k l2 hl => mt (goesAfter_nil s l1 k).1 (h l1 k l2 hl)

theorem eligible_first {s : State} {i : SegId} {l1 l2 : List SlotId} {k : SlotId}
    (hl : (s.seg i).pendingList = l1 ++ k :: l2) (hk : s.mayGo l1 k)
    (h : ∀ m1 j m2, l1 = m1 ++ j :: m2 → ¬ s.mayGo m1 j) : eligible i s = some k := by
  rw [eligible, hl]
  exact eligibleFrom_first ((goesAfter_nil s l1 k).2 hk) fun m1 j m2 hm =>
    mt (goesAfter_nil s m1 j).1 (h m1 j m2 hm)

/-! ### The arbiter of an IDLE segment (R92 to R94, R120) -/

/-- R94 step 1: an alert query is called for. -/
theorem alertCalled_iff (g : Segment) : alertCalled g = true ↔
    g.config.alertEnable = true ∧ g.alert.suspended = false ∧ g.alertLow = true := by
  simp [alertCalled, and_assoc]

theorem segState_isIdle {s : State} {i : SegId} (h : (s.seg i).state = .idle) :
    (s.segState i).isIdle = true := by
  rw [State.segState, h]
  rfl

theorem arbitrate_lineHeld {s : State} {i : SegId} (h : (s.seg i).state = .idle)
    (hl : ¬ (s.seg i).linesFree) : arbitrate i s = enterRecovering i .check s := by
  rw [arbitrate, if_pos (segState_isIdle h), if_pos (stuckCheck_lineHeld hl)]

theorem arbitrate_chosen {s : State} {i : SegId} {c : Choice} (h : (s.seg i).state = .idle)
    (hl : (s.seg i).linesFree) (hc : choose i s = some c) : arbitrate i s = grant i c s := by
  rw [arbitrate, if_pos (segState_isIdle h), if_neg (by rw [stuckCheck_linesFree hl]; exact nofun), hc]

theorem arbitrate_nothing {s : State} {i : SegId} (h : (s.seg i).state = .idle)
    (hl : (s.seg i).linesFree) (hc : choose i s = none) : arbitrate i s = s := by
  rw [arbitrate, if_pos (segState_isIdle h), if_neg (by rw [stuckCheck_linesFree hl]; exact nofun), hc]

theorem choose_alert {s : State} {i : SegId} (h : alertCalled (s.seg i) = true) :
    choose i s = some .alert := by
  rw [choose, if_pos h]

theorem choose_nothing {s : State} {i : SegId} (h : ¬ alertCalled (s.seg i) = true)
    (hd : (s.seg i).dueList = []) (he : eligible i s = none) : choose i s = none := by
  rw [choose, if_neg h]
  simp [hd, chooseHostFirst, he]

theorem choose_survey {s : State} {i : SegId} {n : SvId} {rest : List SvId}
    (h : ¬ alertCalled (s.seg i) = true) (hd : (s.seg i).dueList = n :: rest)
    (he : (s.seg i).config.surveyShare ≤ (s.seg i).consecHost ∨ eligible i s = none) :
    choose i s = some (.survey n) := by
  rw [choose, if_neg h, hd]
  dsimp only [List.head?_cons]
  split
  · rfl
  · next less => simp [chooseHostFirst, he.resolve_left less, hd]

theorem choose_host {s : State} {i : SegId} {k : SlotId} (h : ¬ alertCalled (s.seg i) = true)
    (hd : (s.seg i).dueList = [] ∨ (s.seg i).consecHost < (s.seg i).config.surveyShare)
    (he : eligible i s = some k) : choose i s = some (.host k) := by
  rw [choose, if_neg h]
  have host : chooseHostFirst i s = some (.host k) := by
    unfold chooseHostFirst
    rw [he]
  cases hl : (s.seg i).dueList with
  | nil => exact host
  | cons n rest =>
    have less := hd.resolve_left (by rw [hl]; exact nofun)
    exact (if_neg (Nat.not_le.2 less)).trans host

/-! ### The grants (R95, R96, R154) -/

theorem readItems_eq {n : Nat} (h : 1 ≤ n) :
    readItems n = List.replicate (n - 1) (.read true) ++ [.read false] := by
  cases n with
  | zero => omega
  | succ n => rfl

theorem alertScript_eq (a : BusAddr) : alertScript a = [.addressRead a, .read false] := rfl

/-- R95: CONSEC_HOST is 0 with an empty due list. -/
theorem ite_isEmpty {α : Type} (l : List SvId) (a b : α) :
    (if l.isEmpty then a else b) = if l = [] then a else b := by
  cases l <;> rfl

/-- R96, R169: an alert query is granted. -/
theorem grant_alert (s : State) (i : SegId) : grant i .alert s = s.putSeg i (({ s.seg i with
    consecHost := if (s.seg i).dueList = [] then 0 else (s.seg i).consecHost } : Segment).granted .alert none
      [.addressRead (s.seg i).config.alertAddress, .read false]) := by
  rw [grant, grantAlert]
  simp only [beginWork_eq, putConsecHost, State.seg_putSeg_self, State.putSeg_putSeg, consecAfterAlert,
    alertScript_eq, ite_isEmpty]

/-- R96, R154: the head of the due list is granted. -/
theorem grant_survey {s : State} {i : SegId} {n : SvId} {c : SurveyConf} {d : DueTime} {b : Binding}
    (h : (s.sv n).setup = some ⟨c, .due d⟩) (hb : (s.entry c.lt).binding = some b) (hi : b.segment = i) :
    grant i (.survey n) s = ((s.putSv n { s.sv n with setup := some ⟨c, .reading d .waiting⟩ }).putEntry c.lt
      { s.entry c.lt with refCount := (s.entry c.lt).refCount + 1 }).putSeg i (({ s.seg i with
        dueList := (s.seg i).dueList.filter (· != n), consecHost := 0 } : Segment).granted (.survey n)
          (some c.lt) (surveyScript b.address c)) := by
  have seg : s.svSeg n = some i := by rw [svSeg_of h, hb, ← hi]; rfl
  rw [grant, grantSurvey, h, svRun_of h]
  dsimp only
  rw [hb]
  dsimp only
  rw [leaveDue_of seg, putConsecHost, putSvRun_of (u := ⟨c, .due d⟩) (by simpa using h), addRef,
    beginWork_eq]
  simp [← hb]

/-- R96: a host operation is granted. -/
theorem grant_host {s : State} {i : SegId} {k : SlotId} {o : OpSlot} {x : Context} (h : s.slot k = some o)
    (hx : s.ctx o.context = some x) : grant i (.host k) s =
      (s.putSlot k (some { o with state := .active false, attempts := o.attempts + 1 })).putSeg i
        (({ s.seg i with
          pendingList := (s.seg i).pendingList.filter (· != k)
          consecHost := if (s.seg i).dueList = [] then 0 else min ((s.seg i).consecHost + 1) 8 } :
            Segment).granted (.host k o.kind) (some o.lt) (hostScript o.address x.request)) := by
  rw [grant, grantHost, h]
  dsimp only
  rw [hx]
  dsimp only
  rw [beginWork_eq]
  simp [putConsecHost, leavePending, consecAfterHost, Config.consecHostCeiling]

/-! ### Grant opportunities with nothing QUEUED -/

theorem leaveDue_rq (n : SvId) (s : State) : (leaveDue n s).rq = s.rq := by
  unfold leaveDue
  split <;> rfl

theorem beginWork_rq (i : SegId) (w : Work) (lt : Option LtId) (script : List BusItem) (s : State) :
    (beginWork i w lt script s).rq = s.rq := by
  rw [beginWork_eq]
  rfl

theorem grant_rq (i : SegId) (c : Choice) (s : State) : (grant i c s).rq = s.rq := by
  cases c with
  | alert => exact beginWork_rq _ _ _ _ _
  | survey n =>
    unfold grant grantSurvey
    dsimp only
    split
    · split
      · exact (beginWork_rq _ _ _ _ _).trans (leaveDue_rq n s)
      · rfl
    · rfl
  | host k =>
    unfold grant grantHost
    dsimp only
    split
    · split
      · exact beginWork_rq _ _ _ _ _
      · rfl
    · rfl

theorem arbitrate_rq (i : SegId) (s : State) : (arbitrate i s).rq = s.rq := by
  unfold arbitrate
  split
  · split
    · rfl
    · split
      · exact grant_rq _ _ _
      · rfl
  · rfl

/-- R45, R92: with nothing QUEUED a grant opportunity is the arbiter's alone. -/
theorem opportunity_noneQueued {s : State} (i : SegId) (h : s.noneQueued) :
    opportunity i s = arbitrate i s := by
  unfold opportunity
  dsimp only
  split
  · rfl
  · exact examine_stay h (arbitrate_rq i s)

/-- Settles O47: the choice of each case, and what is granted. -/
theorem arbiterChooses : Obligations.ArbiterChooses := by
  refine ⟨fun s i => ?_, fun s k o start gap hq h hs reached =>
    congrArg finish ((expireBackoff_over h hs ((backoffOver_iff _ _ _).2 reached)).trans
      (opportunity_noneQueued _ hq))⟩
  dsimp only
  rw [← alertCalled_iff]
  refine ⟨arbitrate_notIdle, arbitrate_lineHeld, fun idle free => ⟨fun called => ?_, fun quiet due none => ?_,
    fun n rest c d b script quiet due first hn hb hi h0 h1 len => ?_,
    fun l1 k l2 o x quiet due hl hk before ho hx => ?_⟩⟩
  · exact (arbitrate_chosen idle free (choose_alert called)).trans (grant_alert s i)
  · exact arbitrate_nothing idle free (choose_nothing quiet due (eligible_none none))
  · have script_eq : script = surveyScript b.address c := by
      unfold surveyScript
      cases hsel : c.selector with
      | none => rw [h0 hsel]; exact congrArg _ (readItems_eq len).symm
      | some v => rw [h1 v hsel]; exact congrArg (fun l => _ :: _ :: _ :: l) (readItems_eq len).symm
    rw [script_eq]
    exact (arbitrate_chosen idle free (choose_survey quiet due (first.imp_right eligible_none))).trans
      (grant_survey hn hb hi)
  · exact (arbitrate_chosen idle free (choose_host quiet due (eligible_first hl hk before))).trans
      (grant_host ho hx)

end Sys2Proof.Machine
end


section
/-! SEGMENT_CLEAR, ALERT_RESUME and the alert input (R126, R168, R172), and the copies that the reads of the
tables make (R17, R22, R152). -/

namespace Sys2Proof.Machine

/-! ### Alert queries granted -/

/-- R76: with BUS_FREE no the granted work waits for the bus. -/
theorem granted_waits {g : Segment} (h : g.busFree = false) (w : Work) (lt : Option LtId)
    (script : List BusItem) : g.granted w lt script = { g with
      state := .busy ⟨w, lt, script, .waitFree, ⟨false, false, false⟩⟩, busFree := false } := by
  rw [Segment.granted, if_neg (by simp [h])]

/-- R92, R94, R169: an IDLE segment with free lines grants the alert query called for. -/
theorem arbitrate_alert {s : State} {i : SegId} (idle : (s.seg i).state = .idle)
    (free : (s.seg i).linesFree) (enabled : (s.seg i).config.alertEnable = true)
    (running : (s.seg i).alert.suspended = false) (low : (s.seg i).alertLow = true) :
    arbitrate i s = s.putSeg i (({ s.seg i with
      consecHost := if (s.seg i).dueList = [] then 0 else (s.seg i).consecHost } : Segment).granted .alert
        none [.addressRead (s.seg i).config.alertAddress, .read false]) :=
  (arbitrate_chosen idle free (choose_alert ((alertCalled_iff _).2 ⟨enabled, running, low⟩))).trans
    (grant_alert s i)

/-- The same where the bus is not known to be free and nothing is QUEUED: the query waits. -/
theorem opportunity_alert {s : State} {i : SegId} (idle : (s.seg i).state = .idle)
    (free : (s.seg i).linesFree) (enabled : (s.seg i).config.alertEnable = true)
    (running : (s.seg i).alert.suspended = false) (low : (s.seg i).alertLow = true)
    (busy : (s.seg i).busFree = false) (hq : s.noneQueued) :
    opportunity i s = s.putSeg i { s.seg i with
      consecHost := if (s.seg i).dueList = [] then 0 else (s.seg i).consecHost
      state := .busy ⟨.alert, none, [.addressRead (s.seg i).config.alertAddress, .read false],
        .waitFree, ⟨false, false, false⟩⟩ } := by
  rw [opportunity_noneQueued i hq, arbitrate_alert idle free enabled running low,
    granted_waits (by exact busy), ← busy]

/-! ### SEGMENT_CLEAR and ALERT_RESUME -/

theorem argSeg_of {s : State} {i : SegId} (h : (s.arg 0).toNat = i.val) : s.argSeg? = some i :=
  indexOf_eq_some.2 h

theorem argSeg_none {s : State} (h : 3 < (s.arg 0).toNat) : s.argSeg? = none := indexOf_eq_none.2 h

theorem segmentClear_other {s : State} {i : SegId} (h : (s.arg 0).toNat = i.val)
    (hf : ∀ r, (s.seg i).state ≠ .faulted r) : segmentClear s = s.answered .notFaulted := by
  rw [segmentClear, argSeg_of h]
  cases hs : (s.seg i).state with
  | faulted r => exact absurd hs (hf r)
  | idle | disabled | busy _ | recovering _ => simp [State.segState, hs, answer_eq]

theorem segmentClear_faulted {s : State} {i : SegId} {r : Recovery} (h : (s.arg 0).toNat = i.val)
    (hf : (s.seg i).state = .faulted r) :
    segmentClear s = (examine (enterRecovering i .clear s)).answered .done := by
  rw [segmentClear, argSeg_of h]
  simp [State.segState, hf, answer_eq]

theorem alertResume_of {s : State} {i : SegId} (h : (s.arg 0).toNat = i.val) :
    alertResume s = (opportunity i (putAlert i AlertState.cleared s)).answered .done := by
  rw [alertResume, argSeg_of h]
  rfl

/-- Settles O39, by the state of the segment. -/
theorem segmentClearAndAlertResume : Obligations.SegmentClearAndAlertResume := by
  refine ⟨fun s rest h => ?_, fun s rest h => ?_⟩
  · have at_hand : exec .segmentClear s = finish (segmentClear (s.leaving rest)) :=
      congrArg finish (takeCommand_at (codeIs 0x0A) segmentClear h rfl)
    refine ⟨fun bad => at_hand.trans (congrArg finish ?_), fun i hi => ⟨fun other => ?_, fun r hr => ?_⟩⟩
    · rw [segmentClear, argSeg_none (s := s.leaving rest) bad]
      rfl
    · exact at_hand.trans (congrArg finish (segmentClear_other (s := s.leaving rest) hi other))
    · exact at_hand.trans (congrArg finish (segmentClear_faulted (s := s.leaving rest) hi hr))
  · have at_hand : exec .alertResume s = finish (alertResume (s.leaving rest)) :=
      congrArg finish (takeCommand_at (codeIs 0x0B) alertResume h rfl)
    refine ⟨fun bad => at_hand.trans (congrArg finish ?_), fun i hi => ?_⟩
    · rw [alertResume, argSeg_none (s := s.leaving rest) bad]
      rfl
    · have resumes := at_hand.trans (congrArg finish (alertResume_of (s := s.leaving rest) hi))
      have seg : (putAlert i AlertState.cleared (s.leaving rest)).seg i =
          { s.seg i with alert := ⟨none, 0, 0, false⟩ } := State.seg_putSeg_self _ _ _
      refine ⟨fun busy => resumes.trans (congrArg (fun t => finish (State.answered t .done)) ?_),
        fun idle free enabled low bus hq =>
          resumes.trans (congrArg (fun t => finish (State.answered t .done)) ?_)⟩
      · exact opportunity_notIdle (by rw [seg]; exact busy)
      · rw [opportunity_alert (by rw [seg]; exact idle) (by rw [seg]; exact free)
          (by rw [seg]; exact enabled) (by rw [seg]) (by rw [seg]; exact low) (by rw [seg]; exact bus)
          (by exact hq), seg, putAlert, State.putSeg_putSeg]

/-! ### The alert input (R168) -/

/-- R168: the input is watched. -/
theorem alertWatched_iff (g : Segment) : alertWatched g = true ↔
    g.config.alertEnable = true ∧ g.state ≠ .disabled := by
  cases h : g.state <;> simp [alertWatched, SegState.isDisabled, h]

theorem alertAsserts_high {s : State} {i : SegId} (h : (s.seg i).alertLow = false) :
    alertAsserts i s = if alertWatched (s.seg i) then opportunity i (putAlertLow i true s)
      else putAlertLow i true s :=
  if_neg (by simp [h])

theorem alertReleases_low {s : State} {i : SegId} (h : (s.seg i).alertLow = true) :
    alertReleases i s = if alertWatched (s.seg i) then
      putAlert i (s.seg i).alert.released (putAlertLow i false s) else putAlertLow i false s :=
  if_pos h

/-- Settles O59, by the state of the segment and ALERT_ENABLE. -/
theorem alertInputChanges : Obligations.AlertInputChanges := by
  intro s i
  have seg : (putAlertLow i true s).seg i = { s.seg i with alertLow := true } := State.seg_putSeg_self _ _ _
  refine ⟨fun high => ⟨fun h => congrArg finish ((alertAsserts_high high).trans ?_),
      fun idle enabled running free bus hq => congrArg finish ((alertAsserts_high high).trans ?_)⟩,
    fun low => ⟨fun on enabled => congrArg finish ((alertReleases_low low).trans ?_),
      fun off => congrArg finish ((alertReleases_low low).trans ?_)⟩⟩
  · split
    · next watched =>
      have busy := h.resolve_right (by simp [((alertWatched_iff _).1 watched).1])
      exact opportunity_notIdle (by rw [seg]; exact busy)
    · rfl
  · rw [if_pos ((alertWatched_iff _).2 ⟨enabled, by rw [idle]; exact nofun⟩),
      opportunity_alert (by rw [seg]; exact idle) (by rw [seg]; exact free) (by rw [seg]; exact enabled)
        (by rw [seg]; exact running) (by rw [seg]) (by rw [seg]; exact bus) (by exact hq), seg,
      putAlertLow, State.putSeg_putSeg]
  · rw [if_pos ((alertWatched_iff _).2 ⟨enabled, on⟩), putAlertLow, putAlert, State.seg_putSeg_self,
      State.putSeg_putSeg]
    rfl
  · refine if_neg fun watched => ?_
    obtain ⟨enabled, on⟩ := (alertWatched_iff _).1 watched
    rcases off with off | off
    · exact on off
    · simp [enabled] at off

/-! ### Copies of tables (R17, R22, R152) -/

/-- R182: the argument area after a copy: the bytes from offset `k` on, and what stood beside them. -/
theorem look_writeArgs : ∀ (l : List Byte) (a : Vector Byte 60) (k : Nat) (j : Fin 60), 
    look (writeArgs a k l) j = if k ≤ j.val then l.getD (j.val - k) (look a j) else look a j
  | [], a, k, j => by simp [writeArgs]
  | b :: bs, a, k, j => by
    rw [writeArgs, look_writeArgs bs]
    have here : look (if h : k < 60 then put a ⟨k, h⟩ b else a) j = if j.val = k then b else look a j := by
      have := j.isLt
      split
      · simp only [look_put, Fin.ext_iff, eq_comm]
      · next h => exact (if_neg (by omega)).symm
    rw [here]
    rcases Nat.lt_trichotomy j.val k with h | h | h
    · simp [h.ne, Nat.not_le.2 h, show ¬ k + 1 ≤ j.val by omega]
    · simp [h]
    · obtain ⟨d, hd⟩ : ∃ d, j.val = k + 1 + d := ⟨j.val - (k + 1), by omega⟩
      have e1 : j.val - k = d + 1 := by omega
      have e2 : j.val - (k + 1) = d := by omega
      simp [h.ne', h.le, e1, e2, show k + 1 ≤ j.val by omega]

/-- R182: byte `k` of a copy stands at offset `k + 1`. -/
theorem copied_writeArgs (a : Vector Byte 60) {l : List Byte} {k : Nat} (hk : k < l.length)
    (h : k + 1 < 60) : copied (writeArgs a 1 l) (k + 1) = l.getD k 0 := by
  rw [copied, dif_pos h, look_writeArgs, if_pos (by simp)]
  simp [hk]

/-- R182: the index argument stands. -/
theorem look_writeArgs_index (a : Vector Byte 60) (l : List Byte) : look (writeArgs a 1 l) 0 = look a 0 := by
  rw [look_writeArgs]
  rfl

/-- R182: what lies beyond the copy stands. -/
theorem look_writeArgs_beyond (a : Vector Byte 60) {l : List Byte} {j : Fin 60} (h : l.length + 1 ≤ j.val) :
    look (writeArgs a 1 l) j = look a j := by
  rw [look_writeArgs, if_pos (by omega)]
  exact List.getD_eq_default _ _ (by omega)

/-- R182: what lies in the copy. -/
theorem look_writeArgs_within (a : Vector Byte 60) {l : List Byte} {j : Fin 60} (h1 : 1 ≤ j.val)
    (h2 : j.val ≤ l.length) : look (writeArgs a 1 l) j = l.getD (j.val - 1) 0 := by
  have := copied_writeArgs a (l := l) (k := j.val - 1) (by omega) (by omega)
  rw [← this, copied, dif_pos (by omega)]
  congr 1
  exact Fin.ext (by simp; omega)

theorem length_mapReadCopy (e : MapEntry) : (mapReadCopy e).length = 7 := by
  unfold mapReadCopy
  cases e.binding <;> rfl

theorem length_mask64Bytes (v : Mask64) : (mask64Bytes v).length = 8 := rfl

theorem length_groupReadCopy (g : Group) : (groupReadCopy g).length = 10 := rfl

theorem length_surveyModeCopy (m : SurveyMode) : (surveyModeCopy m).length = 25 := by
  cases m <;> rfl

theorem length_surveyRunCopy (r : SurveyRun) : (surveyRunCopy r).length = 4 := by
  cases r <;> rfl

theorem length_surveyReadCopy (e : SurveyEntry) : (surveyReadCopy e).length = 42 := by
  unfold surveyReadCopy surveyConfCopy
  cases e.setup with
  | none => rfl
  | some u => simp [length_surveyModeCopy, length_surveyRunCopy, word16Bytes]

/-- The zeros of what is absent. -/
theorem getD_zeros (n k : Nat) (l : List Byte) (h : k < n) : (List.replicate n 0 ++ l).getD k 0 = 0 := by
  rw [List.getD_append _ _ _ _ (by simpa using h)]
  simp

theorem look_eq_copied (a : Vector Byte 60) (k : Fin 60) : look a k = copied a k.val :=
  (dif_pos k.isLt).symm

/-- TABLE 76: part of a copy, by its place. -/
theorem copied_part (a : Vector Byte 60) {l p w q : List Byte} {j n : Nat} (hl : l = p ++ (w ++ q))
    (hj : j < w.length) (hn : p.length + j + 1 = n) (h : n < 60) :
    copied (writeArgs a 1 l) n = w.getD j 0 := by
  subst hn
  rw [copied_writeArgs a (by simp [hl]; omega) h, hl]
  simp [List.getD_eq_getElem?_getD, List.getElem?_append, hj]

/-- TABLE 76: eight bytes of a copy that are those of a mask show it. -/
theorem shows64_copied (a : Vector Byte 60) {l p q : List Byte} {v : Mask64} {n : Nat}
    (hl : l = p ++ (mask64Bytes v ++ q)) (hn : p.length + 1 = n) (h : n ≤ 52) :
    shows64 v (copied (writeArgs a 1 l)) n := by
  refine shows64_of fun j hj => ?_
  rw [copied_part a hl (j := j) (by simpa [length_mask64Bytes] using hj) (by omega) (by omega)]
  simp [mask64Bytes, hj]

/-- R152, TABLE 76: the code of MODE and the three masks. -/
theorem modeBytes_copied (a : Vector Byte 60) {l p q : List Byte} {x : Byte} {u v w : Mask64}
    (hl : l = p ++ (x :: (mask64Bytes u ++ mask64Bytes v ++ mask64Bytes w) ++ q)) (hp : p.length = 8) :
    copied (writeArgs a 1 l) 9 = x ∧ shows64 u (copied (writeArgs a 1 l)) 10 ∧
      shows64 v (copied (writeArgs a 1 l)) 18 ∧ shows64 w (copied (writeArgs a 1 l)) 26 := by
  refine ⟨?_, ?_, ?_, ?_⟩
  · exact copied_part a hl (j := 0) (by simp) (by omega) (by omega)
  · exact shows64_copied a (p := p ++ [x]) (q := mask64Bytes v ++ (mask64Bytes w ++ q)) (by simp [hl])
      (by simp [hp]) (by omega)
  · exact shows64_copied a (p := p ++ x :: mask64Bytes u) (q := mask64Bytes w ++ q) (by simp [hl])
      (by simp [hp, length_mask64Bytes]) (by omega)
  · exact shows64_copied a (p := p ++ x :: (mask64Bytes u ++ mask64Bytes v)) (q := q) (by simp [hl])
      (by simp [hp, length_mask64Bytes]) (by omega)

theorem modeShows_copied (a : Vector Byte 60) {m : SurveyMode} {l p q : List Byte}
    (hl : l = p ++ (surveyModeCopy m ++ q)) (hp : p.length = 8) :
    modeShows m (copied (writeArgs a 1 l)) := by
  cases m with
  | none => exact modeBytes_copied a hl hp
  | change k => exact modeBytes_copied a hl hp
  | window lo hi => exact modeBytes_copied a hl hp

/-- R152, TABLE 76: STATE, DUE_TIME and EXIT_TO. -/
theorem runBytes_copied (a : Vector Byte 60) {l p q : List Byte} {x y : Byte} {t : Word16}
    (hl : l = p ++ (x :: (word16Bytes t ++ [y]) ++ q)) (hp : p.length = 35) :
    copied (writeArgs a 1 l) 36 = x ∧
      shows16 t (copied (writeArgs a 1 l) 37) (copied (writeArgs a 1 l) 38) ∧
      copied (writeArgs a 1 l) 39 = y := by
  have byte (j : Nat) (h : j < 4) : copied (writeArgs a 1 l) (36 + j) =
      (x :: (word16Bytes t ++ [y])).getD j 0 :=
    copied_part a hl (by simpa [word16Bytes] using h) (by omega) (by omega)
  refine ⟨byte 0 (by omega), ?_, byte 3 (by omega)⟩
  rw [byte 1 (by omega), byte 2 (by omega)]
  exact shows16_bytes t

theorem runShows_copied (a : Vector Byte 60) {r : SurveyRun} {l p q : List Byte}
    (hl : l = p ++ (surveyRunCopy r ++ q)) (hp : p.length = 35) :
    runShows r (copied (writeArgs a 1 l)) := by
  cases r with
  | stopped => exact runBytes_copied a (t := 0) hl hp
  | waiting d => exact runBytes_copied a hl hp
  | due d => exact runBytes_copied a hl hp
  | reading d x => cases x <;> exact runBytes_copied a hl hp
  | held => exact runBytes_copied a (t := 0) hl hp
  | orphaned => exact runBytes_copied a (t := 0) hl hp

/-- R17: what MAP_READ writes. -/
theorem mapRead_of {s : State} {lt : LtId} (h : (s.arg 0).toNat = lt.val) :
    mapRead s = answer .done (copyOut (mapReadCopy (s.entry lt)) s) := by
  rw [mapRead, State.argLt?, indexOf_eq_some.2 h]

/-- R22: what GROUP_READ writes. -/
theorem groupRead_of {s : State} {g : GroupId} (h : (s.arg 0).toNat = g.val) :
    groupRead s = answer .done (copyOut (groupReadCopy (look s.groups g)) s) := by
  rw [groupRead, State.argGroup?, indexOf_eq_some.2 h]

/-- R152: what SURVEY_READ writes. -/
theorem surveyRead_of {s : State} {n : SvId} (h : (s.arg 0).toNat = n.val) :
    surveyRead s = answer .done (copyOut (surveyReadCopy (s.sv n)) s) := by
  rw [surveyRead, State.argSv?, indexOf_eq_some.2 h]

/-- TABLE 76: the copy of a map entry. -/
theorem mapReadCopy_shown (a : Vector Byte 60) (e : MapEntry) (r : Vector Byte 60)
    (hr : r = writeArgs a 1 (mapReadCopy e)) :
    look r 0 = look a 0 ∧ look r 6 = BitVec.ofNat 8 e.failCount ∧ look r 7 = BitVec.ofNat 8 e.refCount ∧
      (∀ k : Fin 60, 8 ≤ k.val → look r k = look a k) ∧
      (e.binding = none → ∀ k : Fin 60, 1 ≤ k.val → k.val ≤ 5 → look r k = 0) ∧
      ∀ b, e.binding = some b → look r 1 = boundCode b.state ∧ look r 2 = BitVec.ofNat 8 b.segment.val ∧
        look r 3 = BitVec.ofNat 8 b.address.toNat ∧ look r 4 = BitVec.ofNat 8 b.threshold ∧
        look r 5 = (if b.autoReinstate then 1 else 0) := by
  subst hr
  have byte (k : Fin 60) (h1 : 1 ≤ k.val) (h7 : k.val ≤ 7) :
      look (writeArgs a 1 (mapReadCopy e)) k = (mapReadCopy e).getD (k.val - 1) 0 :=
    look_writeArgs_within a h1 (by rw [length_mapReadCopy]; exact h7)
  refine ⟨look_writeArgs_index a _, ?_, ?_, fun k hk => look_writeArgs_beyond a
    (by rw [length_mapReadCopy]; exact hk), fun none k h1 h5 => ?_, fun b hb => ?_⟩
  · rw [byte 6 (by decide) (by decide), mapReadCopy]
    cases e.binding <;> rfl
  · rw [byte 7 (by decide) (by decide), mapReadCopy]
    cases e.binding <;> rfl
  · rw [byte k h1 (by omega), mapReadCopy, none]
    exact getD_zeros 5 _ _ (by omega)
  · rw [byte 1 (by decide) (by decide), byte 2 (by decide) (by decide), byte 3 (by decide) (by decide),
      byte 4 (by decide) (by decide), byte 5 (by decide) (by decide), mapReadCopy, hb]
    exact ⟨boundCode_eq b.state, rfl, setWidth_eq_ofNat b.address, rfl, rfl⟩

/-- TABLE 76: the copy of a group. -/
theorem groupReadCopy_shown (a : Vector Byte 60) (g : Group) (r : Vector Byte 60)
    (hr : r = writeArgs a 1 (groupReadCopy g)) :
    look r 0 = look a 0 ∧ shows64 g.members (copied r) 1 ∧
      (∀ k : Fin 60, 11 ≤ k.val → look r k = look a k) ∧
      (g.policy = .all → look r 9 = 0 ∧ look r 10 = 0) ∧
      (g.policy = .any → look r 9 = 1 ∧ look r 10 = 0) ∧
      ∀ q, g.policy = .quorum q → look r 9 = 2 ∧ look r 10 = BitVec.ofNat 8 q := by
  subst hr
  have byte (k : Fin 60) (h1 : 1 ≤ k.val) (h10 : k.val ≤ 10) :
      look (writeArgs a 1 (groupReadCopy g)) k = (groupReadCopy g).getD (k.val - 1) 0 :=
    look_writeArgs_within a h1 (by rw [length_groupReadCopy]; exact h10)
  have policy : look (writeArgs a 1 (groupReadCopy g)) 9 = g.policy.code ∧
      look (writeArgs a 1 (groupReadCopy g)) 10 = (groupReadCopy g).getD 9 0 :=
    ⟨byte 9 (by decide) (by decide), byte 10 (by decide) (by decide)⟩
  refine ⟨look_writeArgs_index a _, shows64_copied a (p := []) rfl rfl (by omega),
    fun k hk => look_writeArgs_beyond a hk, fun h => ?_, fun h => ?_, fun q h => ?_⟩
  all_goals
    rw [policy.1, policy.2, groupReadCopy, h]
    exact ⟨rfl, rfl⟩

/-- TABLE 76: the copy of a survey entry. -/
theorem surveyReadCopy_shown (a : Vector Byte 60) (e : SurveyEntry) (r : Vector Byte 60)
    (hr : r = writeArgs a 1 (surveyReadCopy e)) :
    look r 0 = look a 0 ∧ look r 40 = BitVec.ofNat 8 e.consecFails ∧
      look r 41 = BitVec.ofNat 8 e.overruns ∧ look r 42 = windowCode e.windowState ∧
      (∀ k : Fin 60, 43 ≤ k.val → look r k = look a k) ∧
      (e.setup = none → ∀ k : Fin 60, 1 ≤ k.val → k.val ≤ 39 → look r k = 0) ∧
      ∀ c u, e.setup = some ⟨c, u⟩ → look r 1 = BitVec.ofNat 8 c.lt.val ∧
        look r 2 = (if c.selector = none then 0 else 1) ∧ look r 3 = c.selector.getD 0 ∧
        look r 4 = BitVec.ofNat 8 c.length ∧ shows16 c.period (look r 5) (look r 6) ∧
        shows16 c.startOffset (look r 7) (look r 8) ∧ modeShows c.mode (copied r) ∧
        look r 34 = BitVec.ofNat 8 c.failThreshold ∧
        look r 35 = (if c.notifyFirst then 1 else 0) ∧ runShows u (copied r) := by
  subst hr
  have byte (k : Fin 60) (h1 : 1 ≤ k.val) (h42 : k.val ≤ 42) :
      look (writeArgs a 1 (surveyReadCopy e)) k = (surveyReadCopy e).getD (k.val - 1) 0 :=
    look_writeArgs_within a h1 (by rw [length_surveyReadCopy]; exact h42)
  have tail : ∃ p : List Byte, p.length = 39 ∧
      surveyReadCopy e = p ++ ([byteOf e.consecFails, byteOf e.overruns, e.windowState.code] ++ []) := by
    refine ⟨_, ?_, rfl⟩
    unfold surveyConfCopy
    cases e.setup with
    | none => rfl
    | some u => simp [length_surveyModeCopy, length_surveyRunCopy, word16Bytes]
  obtain ⟨p, hp, ht⟩ := tail
  have count (k : Fin 60) (j : Nat) (hj : j < 3) (hk : k.val = 40 + j) :
      look (writeArgs a 1 (surveyReadCopy e)) k =
        [byteOf e.consecFails, byteOf e.overruns, e.windowState.code].getD j 0 := by
    rw [look_eq_copied]
    exact copied_part a ht hj (by omega) k.isLt
  refine ⟨look_writeArgs_index a _, count 40 0 (by decide) rfl, count 41 1 (by decide) rfl,
    (count 42 2 (by decide) rfl).trans (windowCode_eq _), fun k hk => look_writeArgs_beyond a
    (by rw [length_surveyReadCopy]; exact hk), fun none k h1 h39 => ?_, fun c u hu => ?_⟩
  · rw [byte k h1 (by omega), surveyReadCopy, none]
    exact getD_zeros 39 _ _ (by omega)
  · have copy : surveyReadCopy e = [byteOf c.lt.val, boolByte c.selector.isSome, c.selector.getD 0,
        byteOf c.length, BitVec.ofNat 8 c.period.toNat, BitVec.ofNat 8 (c.period.toNat >>> 8),
        BitVec.ofNat 8 c.startOffset.toNat, BitVec.ofNat 8 (c.startOffset.toNat >>> 8)] ++
        (surveyModeCopy c.mode ++ ([byteOf c.failThreshold, boolByte c.notifyFirst] ++
          (surveyRunCopy u ++ [byteOf e.consecFails, byteOf e.overruns, e.windowState.code]))) := by
      simp [surveyReadCopy, hu, surveyConfCopy, word16Bytes]
    have head (k : Fin 60) (h1 : 1 ≤ k.val) (h8 : k.val ≤ 8) :
        look (writeArgs a 1 (surveyReadCopy e)) k = [byteOf c.lt.val, boolByte c.selector.isSome,
          c.selector.getD 0, byteOf c.length, BitVec.ofNat 8 c.period.toNat,
          BitVec.ofNat 8 (c.period.toNat >>> 8), BitVec.ofNat 8 c.startOffset.toNat,
          BitVec.ofNat 8 (c.startOffset.toNat >>> 8)].getD (k.val - 1) 0 := by
      rw [byte k h1 (by omega), copy, List.getD_append _ _ _ _ (by simp; omega)]
    have flags (k : Fin 60) (j : Nat) (hj : j < 2) (hk : k.val = 34 + j) :
        look (writeArgs a 1 (surveyReadCopy e)) k =
          [byteOf c.failThreshold, boolByte c.notifyFirst].getD j 0 := by
      rw [look_eq_copied]
      refine copied_part a (p := _ ++ surveyModeCopy c.mode) (copy.trans
        (List.append_assoc _ _ _).symm) hj ?_ k.isLt
      simp [length_surveyModeCopy]
      omega
    refine ⟨head 1 (by decide) (by decide), (head 2 (by decide) (by decide)).trans ?_,
      head 3 (by decide) (by decide), head 4 (by decide) (by decide), ?_, ?_,
      modeShows_copied a copy rfl, flags 34 0 (by decide) rfl, flags 35 1 (by decide) rfl,
      runShows_copied a (p := _ ++ (surveyModeCopy c.mode ++ [byteOf c.failThreshold,
        boolByte c.notifyFirst])) (copy.trans (by simp only [List.append_assoc]; rfl)) ?_⟩
    · cases c.selector <;> rfl
    · rw [head 5 (by decide) (by decide), head 6 (by decide) (by decide)]
      exact shows16_bytes _
    · rw [head 7 (by decide) (by decide), head 8 (by decide) (by decide)]
      exact shows16_bytes _
    · simp [length_surveyModeCopy]

/-- Settles O34, table by table. -/
theorem copiesOfTables : Obligations.CopiesOfTables := by
  intro s rest
  have mapAt (h : s.atCommand 0x04 rest) : exec .mapRead s = finish (mapRead (s.leaving rest)) :=
    congrArg finish (takeCommand_at (codeIs 0x04) mapRead h rfl)
  have groupAt (h : s.atCommand 0x06 rest) : exec .groupRead s = finish (groupRead (s.leaving rest)) :=
    congrArg finish (takeCommand_at (codeIs 0x06) groupRead h rfl)
  have surveyAt (h : s.atCommand 0x0F rest) : exec .surveyRead s = finish (surveyRead (s.leaving rest)) :=
    congrArg finish (takeCommand_at (codeIs 0x0F) surveyRead h rfl)
  refine ⟨fun lt h hlt => ⟨_, (mapAt h).trans (congrArg finish (mapRead_of (s := s.leaving rest) hlt)),
      mapReadCopy_shown _ _ _ rfl⟩,
    fun g h hg => ⟨_, (groupAt h).trans (congrArg finish (groupRead_of (s := s.leaving rest) hg)),
      groupReadCopy_shown _ _ _ rfl⟩,
    fun n h hn => ⟨_, (surveyAt h).trans (congrArg finish (surveyRead_of (s := s.leaving rest) hn)),
      surveyReadCopy_shown _ _ _ rfl⟩,
    fun h bad => (mapAt h).trans (congrArg finish ?_), fun h bad => (groupAt h).trans (congrArg finish ?_),
    fun h bad => (surveyAt h).trans (congrArg finish ?_)⟩
  · rw [mapRead, State.argLt?, leaving_arg, indexOf_eq_none.2 bad]
    rfl
  · rw [groupRead, State.argGroup?, leaving_arg, indexOf_eq_none.2 bad]
    rfl
  · rw [surveyRead, State.argSv?, leaving_arg, indexOf_eq_none.2 bad]
    rfl

end Sys2Proof.Machine
end


section
/-! MAP_RETIRE and the release of held survey entries (R7, R8, R14, R75, R150, R153, R162): the due list as
entries join it, and the commands and events that make them join. -/

namespace Sys2Proof.Machine

/-! ### MAP_RETIRE -/

theorem argLt_of {s : State} {lt : LtId} (h : (s.arg 0).toNat = lt.val) : s.argLt? = some lt :=
  indexOf_eq_some.2 h

theorem argLt_none {s : State} (h : 63 < (s.arg 0).toNat) : s.argLt? = none := indexOf_eq_none.2 h

theorem mapRetire_free {s : State} {lt : LtId} (h : (s.arg 0).toNat = lt.val)
    (hb : (s.entry lt).binding = none) : mapRetire s = s.answered .notSet := by
  rw [mapRetire, argLt_of h]
  dsimp only
  rw [hb]
  rfl

theorem mapRetire_draining {s : State} {lt : LtId} {b : Binding} (h : (s.arg 0).toNat = lt.val)
    (hb : (s.entry lt).binding = some b) (hd : b.state = .draining) :
    mapRetire s = s.answered .accepted := by
  rw [mapRetire, argLt_of h]
  dsimp only
  rw [hb]
  dsimp only
  rw [hd]
  rfl

theorem mapRetire_bound {s : State} {lt : LtId} {b : Binding} (h : (s.arg 0).toNat = lt.val)
    (hb : (s.entry lt).binding = some b) (hd : b.state ≠ .draining) :
    mapRetire s = (examine (retire lt b s)).answered (retireResult (s.entry lt)) := by
  rw [mapRetire, argLt_of h]
  dsimp only
  rw [hb]
  dsimp only
  cases hs : b.state with
  | draining => exact absurd hs hd
  | active | isolated => rfl

/-- R6: a retirement that posts its notice. -/
theorem completeRetirement_posted (lt : LtId) (b : Binding) (s : State) :
    completeRetirement lt b true s = ((orphanTarget lt s).putEntry lt ⟨none, 0, 0⟩).withNotice
      (.targetRetired lt b.segment b.address) := by
  simp only [completeRetirement, if_true, postNotice_eq, MapEntry.free]

/-- The survey entries move alike whatever the map entry of `lt` is to be. -/
theorem State.surveyMoved.ofEntry {s w : State} {lt : LtId} {e : MapEntry} {i : SegId}
    {f : SurveyConf → SurveyRun → SurveyRun} {p : SurveyConf → SurveyRun → Bool}
    (h : (s.putEntry lt e).surveyMoved w i f p) :
    ∃ v, s.surveyMoved v i f p ∧ ∀ x, w.putEntry lt x = v.putEntry lt x := by
  obtain ⟨h1, h2, h3⟩ := h
  refine ⟨{ w with map := s.map }, ⟨?_, h2, h3⟩, fun x => ?_⟩
  · rw [h1]
    rfl
  · rw [h1]
    simp [State.putEntry]

/-- Entries moved twice, the second time whatever they were, are moved once. -/
theorem State.surveyMoved.trans {s t u : State} {i : SegId} {f g : SurveyConf → SurveyRun → SurveyRun}
    {p q : SurveyConf → SurveyRun → Bool} (h : s.surveyMoved t i f p) (k : t.surveyMoved u i g q)
    {f' : SurveyConf → SurveyRun → SurveyRun} {p' : SurveyConf → SurveyRun → Bool}
    (hf : ∀ c r, g c (f c r) = f' c r) (hp : ∀ c r, (p c r || q c (f c r)) = p' c r) :
    s.surveyMoved u i f' p' := by
  obtain ⟨t1, t2, t3⟩ := h
  obtain ⟨u1, u2, u3⟩ := k
  refine ⟨by rw [u1, t1], fun n => ?_, fun j => ?_⟩
  · rw [u2, t2]
    cases (s.sv n).setup <;> simp [hf]
  · rw [u3]
    by_cases hj : j = i
    · rw [if_pos hj, if_pos hj, t3, if_pos rfl, List.filter_filter]
      refine congrArg (fun l => { s.seg i with dueList := l }) (List.filter_congr fun n _ => ?_)
      rw [t2]
      cases hn : (s.sv n).setup with
      | none => simp
      | some v => simp [← hp, Bool.and_comm]
    · rw [if_neg hj, if_neg hj, t3, if_neg hj]

/-- R7, R8: a retirement without references orphans every entry at once. -/
theorem retire_unreferenced {s : State} {lt : LtId} {b : Binding} (hb : (s.entry lt).binding = some b)
    (hr : (s.entry lt).refCount = 0) : ∃ v, s.surveyMoved v b.segment
      (fun c r => if c.lt = lt then .orphaned else r) (fun c _ => c.lt == lt) ∧
      retire lt b s = (v.putEntry lt ⟨none, 0, 0⟩).withNotice (.targetRetired lt b.segment b.address) := by
  have first := retireSurvey_moved hb
  have hb' : ((retireSurvey lt s).entry lt).binding = some b := by
    rw [State.entry, first.map]
    exact hb
  refine ⟨orphanTarget lt (retireSurvey lt s), first.trans (orphanTarget_moved hb') (fun c r => ?_)
    fun c r => ?_, ?_⟩
  · split <;> rfl
  · cases h : (c.lt == lt) <;> simp
  · exact (if_pos hr).trans (completeRetirement_posted _ _ _)

/-- R5, R6: a reference released. -/
theorem releaseRef_eq {s : State} {lt : LtId} {b : Binding} (hb : (s.entry lt).binding = some b) :
    releaseRef lt s = if b.state = .draining ∧ (s.entry lt).refCount = 1 then
      completeRetirement lt b true
        (s.putEntry lt { s.entry lt with refCount := (s.entry lt).refCount - 1 })
      else s.putEntry lt { s.entry lt with refCount := (s.entry lt).refCount - 1 } := by
  unfold releaseRef
  dsimp only
  rw [hb]

/-- Settles O32, by the state of the entry and by its references. -/
theorem mapRetireByState : Obligations.MapRetireByState := by
  refine ⟨fun s rest h => ?_, fun s lt b hb => ⟨fun hd hr => ?_, fun h => ?_⟩⟩
  · have at_hand : exec .mapRetire s = finish (mapRetire (s.leaving rest)) :=
      congrArg finish (takeCommand_at (codeIs 0x02) mapRetire h rfl)
    refine ⟨fun bad => at_hand.trans (congrArg finish ?_), fun lt hlt => ⟨fun hb => ?_, fun b hb =>
      ⟨fun hd => ?_, fun hd hr => ?_, fun hd hr => ?_⟩⟩⟩
    · rw [mapRetire, argLt_none (s := s.leaving rest) bad]
      rfl
    · exact at_hand.trans (congrArg finish (mapRetire_free (s := s.leaving rest) hlt hb))
    · exact at_hand.trans (congrArg finish (mapRetire_draining (s := s.leaving rest) hlt hb hd))
    · obtain ⟨v, moved, e⟩ := retire_unreferenced (s := s.leaving rest) hb hr
      refine ⟨v, moved, at_hand.trans (congrArg finish
        ((mapRetire_bound (s := s.leaving rest) hlt hb hd).trans ?_))⟩
      rw [e, leaving_entry, retireResult, if_pos hr]
    · refine ⟨_, retireSurvey_moved (s := s.leaving rest) hb, at_hand.trans (congrArg finish
        ((mapRetire_bound (s := s.leaving rest) hlt hb hd).trans ?_))⟩
      rw [leaving_entry, retireResult, if_neg hr, retire, if_neg (by exact hr), leaving_entry]
  · have hb' : ((s.putEntry lt { s.entry lt with refCount := (s.entry lt).refCount - 1 }).entry
        lt).binding = some b := by
      rw [State.entry_putEntry_self]
      exact hb
    obtain ⟨v, moved, e⟩ := (orphanTarget_moved hb').ofEntry
    refine ⟨v, moved, ?_⟩
    rw [releaseRef_eq hb, if_pos ⟨hd, hr⟩, completeRetirement_posted, e]
  · rw [releaseRef_eq hb, if_neg fun c => h.elim (fun k => k c.1) fun k => k c.2]

end Sys2Proof.Machine
end


section
/-! The due lists (R153, R162): where an entry joins, what a release of held entries makes of them, and the
commands and events that make entries join (R14, R75, R150, R153). -/

namespace Sys2Proof.Machine

/-! ### Joining a due list -/

/-- R153: the entry stands before the first listed entry it precedes, the others in their order. -/
theorem insertDue_spec (first : SvId → Bool) (n : SvId) : ∀ l : List SvId, ∃ l1 l2, l = l1 ++ l2 ∧
    insertDue first n l = l1 ++ n :: l2 ∧ (∀ m ∈ l1, first m = false) ∧
      ∀ m rest, l2 = m :: rest → first m = true
  | [] => ⟨[], [], rfl, rfl, nofun, nofun⟩
  | x :: l => by
    by_cases h : first x = true
    · exact ⟨[], x :: l, rfl, if_pos h, nofun, fun m rest e => by cases e; exact h⟩
    · obtain ⟨l1, l2, e1, e2, e3, e4⟩ := insertDue_spec first n l
      refine ⟨x :: l1, l2, by rw [e1]; rfl, (if_neg h).trans (by rw [e2]; rfl), fun m hm => ?_, e4⟩
      rcases List.mem_cons.1 hm with rfl | hm
      · exact Bool.eq_false_iff.2 h
      · exact e3 m hm

theorem mem_insertDue {first : SvId → Bool} {n x : SvId} {l : List SvId} :
    x ∈ insertDue first n l ↔ x = n ∨ x ∈ l := by
  obtain ⟨l1, l2, e1, e2, -, -⟩ := insertDue_spec first n l
  rw [e2, e1]
  simp only [List.mem_append, List.mem_cons]
  exact or_left_comm

theorem sublist_insertDue (first : SvId → Bool) (n : SvId) (l : List SvId) :
    l.Sublist (insertDue first n l) := by
  obtain ⟨l1, l2, e1, e2, -, -⟩ := insertDue_spec first n l
  rw [e2, e1]
  exact (List.Sublist.refl l1).append (List.sublist_cons_self n l2)

theorem length_insertDue (first : SvId → Bool) (n : SvId) (l : List SvId) :
    (insertDue first n l).length = l.length + 1 := by
  obtain ⟨l1, l2, e1, e2, -, -⟩ := insertDue_spec first n l
  rw [e2, e1]
  simp
  omega

/-- R153: the order of two entries by DUE_TIME and number. -/
theorem dueBefore_iff (now t1 t2 : Word16) (n m : SvId) : dueBefore now t1 n t2 m = true ↔
    (now - t2).toNat < (now - t1).toNat ∨ t2 = t1 ∧ n < m := by
  simp only [dueBefore, elapsed, Bool.or_eq_true, Bool.and_eq_true, decide_eq_true_eq, beq_iff_eq]
  rw [@eq_comm _ t1]
  exact or_congr decide_eq_true_iff Iff.rfl

theorem not_dueBefore {now t1 t2 : Word16} {n m : SvId} (h : dueBefore now t1 n t2 m = false) (hne : m ≠ n) :
    (now - t1).toNat < (now - t2).toNat ∨ t2 = t1 ∧ m < n := by
  have h := mt (dueBefore_iff now t1 t2 n m).2 (by rw [h]; exact nofun)
  rw [not_or, not_and, Nat.not_lt] at h
  rcases Nat.lt_or_eq_of_le h.1 with lt | eq
  · exact .inl lt
  · have e : t2 = t1 := by
      have := BitVec.eq_of_toNat_eq eq
      bv_omega
    exact .inr ⟨e, lt_of_le_of_ne (not_lt.1 (h.2 e)) hne⟩

theorem svDueTime_of {s : State} {n : SvId} {c : SurveyConf} {d : DueTime}
    (h : (s.sv n).setup = some ⟨c, .due d⟩) : s.svDueTime n = d.time := by
  rw [State.svDueTime, svRun_of h]

/-- R153: an entry joins the due list of segment `i`; the place is before the first entry it precedes. -/
theorem joinDue_of {s : State} {n : SvId} {u : SurveySetup} (h : (s.sv n).setup = some u) (i : SegId)
    (d : DueTime) (hn : n ∉ (s.seg i).dueList) : ∃ l1 l2, (s.seg i).dueList = l1 ++ l2 ∧
      joinDue n i d s = (s.putSv n { s.sv n with setup := some ⟨u.conf, .due d⟩ }).putSeg i
        { s.seg i with dueList := l1 ++ n :: l2 } ∧
      (∀ m ∈ l1, ∀ e k, (s.sv m).setup = some ⟨e, .due k⟩ →
        (s.timebase.time - d.time).toNat < (s.timebase.time - k.time).toNat ∨ k.time = d.time ∧ m < n) ∧
      ∀ m rest, l2 = m :: rest → ∀ e k, (s.sv m).setup = some ⟨e, .due k⟩ →
        (s.timebase.time - k.time).toNat < (s.timebase.time - d.time).toNat ∨ k.time = d.time ∧ n < m := by
  let t := s.putSv n { s.sv n with setup := some ⟨u.conf, .due d⟩ }
  obtain ⟨l1, l2, e1, e2, e3, e4⟩ := insertDue_spec
    (fun x => dueBefore s.now d.time n (t.svDueTime x) x) n (s.seg i).dueList
  have time {m : SvId} {e : SurveyConf} {k : DueTime} (hm : m ≠ n)
      (he : (s.sv m).setup = some ⟨e, .due k⟩) : t.svDueTime m = k.time :=
    svDueTime_of (by rw [State.sv_putSv, if_neg hm.symm]; exact he)
  refine ⟨l1, l2, e1, ?_, fun m hm e k he => ?_, fun m rest hm e k he => ?_⟩
  · rw [joinDue, putSvRun_of h]
    exact congrArg (fun l => t.putSeg i { s.seg i with dueList := l }) e2
  · have hne : m ≠ n := fun c => hn (e1 ▸ c ▸ List.mem_append_left l2 hm)
    exact not_dueBefore (time hne he ▸ e3 m hm) hne
  · have hne : m ≠ n := by
      rintro rfl
      exact hn (e1 ▸ hm ▸ List.mem_append_right l1 (List.mem_cons_self))
    exact (dueBefore_iff _ _ _ _ _).1 (time hne he ▸ e4 m rest hm)

/-! ### Falling due (R153) -/

/-- R153: the due time `interval` after `since` has come when the interval has passed, whatever the wrap. -/
theorem dueReached_iff (since interval now : Word16) :
    dueReached ⟨since + interval, since⟩ now = true ↔ interval.toNat ≤ (now - since).toNat := by
  have : since + interval - since = interval := by bv_omega
  simp [dueReached, elapsed, this]

theorem fallDue_of {s : State} {n : SvId} {c : SurveyConf} {d : DueTime} {b : Binding}
    (h : (s.sv n).setup = some ⟨c, .waiting d⟩) (hb : (s.entry c.lt).binding = some b) :
    fallDue n s = if dueReached d s.now then opportunity b.segment (joinDue n b.segment d s) else s := by
  have seg : s.svSeg n = some b.segment := by rw [svSeg_of h, hb]; rfl
  rw [fallDue, svRun_of h, seg]

/-- Settles O49: the interval elapsed decides, and `joinDue` finds the place. -/
theorem surveyEntryFallsDue : Obligations.SurveyEntryFallsDue := by
  intro s n c b since interval h hb
  have falls : exec (.surveyFallsDue n) s = finish _ := congrArg finish (fallDue_of h hb)
  refine ⟨fun before => falls.trans (congrArg finish (if_neg ?_)), fun reached busy hn => ?_⟩
  · rw [dueReached_iff]
    exact Nat.not_le.2 before
  · obtain ⟨l1, l2, e1, e2, e3, e4⟩ := joinDue_of h b.segment ⟨since + interval, since⟩ hn
    refine ⟨l1, l2, e1, falls.trans (congrArg finish ((if_pos ((dueReached_iff _ _ _).2 reached)).trans ?_)),
      e3, e4⟩
    rw [e2]
    exact opportunity_notIdle (by rw [State.seg_putSeg_self]; exact busy)

/-! ### SURVEY_START (R150) -/

theorem argSv_of {s : State} {n : SvId} (h : (s.arg 0).toNat = n.val) : s.argSv? = some n :=
  indexOf_eq_some.2 h

theorem surveyStart_notStopped {s : State} {n : SvId} (h : (s.arg 0).toNat = n.val)
    (hs : s.svRun n ≠ some .stopped) : surveyStart s = s.answered .notStopped := by
  rw [surveyStart, argSv_of h]
  dsimp only
  split
  · next hu => exact absurd (svRun_of hu) hs
  · rfl

theorem surveyStart_stopped {s : State} {n : SvId} {c : SurveyConf} (h : (s.arg 0).toNat = n.val)
    (hu : (s.sv n).setup = some ⟨c, .stopped⟩) : surveyStart s = (startSurvey n c s).answered .done := by
  rw [surveyStart, argSv_of h]
  dsimp only
  rw [hu]
  rfl

/-- R150: the segment runs survey entries. -/
theorem isServing_iff {st : SegState} : st.isServing = true ↔ st = .idle ∨ ∃ w, st = .busy w := by
  cases st <;> simp [SegState.isServing]

theorem startSurvey_held {s : State} {n : SvId} {c : SurveyConf} {b : Binding}
    (hb : (s.entry c.lt).binding = some b)
    (h : ¬ (b.state = .active ∧ (s.segState b.segment).isServing = true)) :
    startSurvey n c s = s.putSvRun n .held := by
  rw [startSurvey, hb]
  exact if_neg h

theorem startSurvey_runs {s : State} {n : SvId} {c : SurveyConf} {b : Binding}
    (hb : (s.entry c.lt).binding = some b) (ha : b.state = .active)
    (h : (s.segState b.segment).isServing = true) : startSurvey n c s =
      opportunityIfJoined b.segment s (setDueTime n b.segment s.now c.startOffset s)
        (setDueTime n b.segment s.now c.startOffset s) := by
  rw [startSurvey, hb]
  exact if_pos ⟨ha, h⟩

/-- R153: an interval of 0 has passed at once. -/
theorem setDueTime_now (n : SvId) (i : SegId) (s : State) :
    setDueTime n i s.now 0 s = joinDue n i ⟨s.timebase.time, s.timebase.time⟩ s := by
  unfold setDueTime
  dsimp only
  rw [if_pos (show (0 : Word16).toNat ≤ _ from Nat.zero_le _), show s.now + 0 = s.timebase.time by simp [State.now]]
  rfl

theorem setDueTime_later {n : SvId} {i : SegId} {since interval : Word16} {s : State}
    (h : (s.timebase.time - since).toNat < interval.toNat) :
    setDueTime n i since interval s = s.putSvRun n (.waiting ⟨since + interval, since⟩) :=
  if_neg (Nat.not_le.2 h)

/-- R92: a due list that has grown is a grant opportunity. -/
theorem opportunityIfJoined_longer {i : SegId} {before after s : State}
    (h : (before.seg i).dueList.length < (after.seg i).dueList.length) :
    opportunityIfJoined i before after s = opportunity i s :=
  if_neg fun e => absurd (congrArg List.length e) h.ne'

/-- Settles O41, by the state of the entry, of its LT and of its segment. -/
theorem surveyStartByTarget : Obligations.SurveyStartByTarget := by
  intro s rest h
  dsimp only
  have at_hand : exec .surveyStart s = finish (surveyStart (s.leaving rest)) :=
    congrArg finish (takeCommand_at (codeIs 0x0D) surveyStart h rfl)
  refine ⟨fun bad => at_hand.trans (congrArg finish ?_), fun n hn => ⟨fun hs => ?_, fun c b hu hb => ?_⟩⟩
  · rw [surveyStart, State.argSv?, leaving_arg, indexOf_eq_none.2 bad]
    rfl
  · exact at_hand.trans (congrArg finish (surveyStart_notStopped (s := s.leaving rest) hn hs))
  have starts := at_hand.trans (congrArg finish (surveyStart_stopped (s := s.leaving rest) hn hu))
  have put (r : SurveyRun) : (s.leaving rest).putSvRun n r =
      (s.leaving rest).putSv n { s.sv n with setup := some ⟨c, r⟩ } :=
    putSvRun_of (s := s.leaving rest) hu r
  have serving (hs : (s.seg b.segment).state = .idle ∨ ∃ w, (s.seg b.segment).state = .busy w) :
      ((s.leaving rest).segState b.segment).isServing = true := isServing_iff.2 hs
  refine ⟨fun off => ?_, fun active hs later => ?_, fun active hs now fresh => ?_⟩
  · refine starts.trans (congrArg (fun t => finish (State.answered t .done)) ?_)
    refine (startSurvey_held (s := s.leaving rest) hb fun on => ?_).trans (put .held)
    rcases isServing_iff.1 on.2 with idle | ⟨w, busy⟩
    · rcases off with off | off | ⟨r, off⟩ | ⟨r, off⟩
      · exact off on.1
      all_goals cases off.symm.trans idle
    · rcases off with off | off | ⟨r, off⟩ | ⟨r, off⟩
      · exact off on.1
      all_goals cases off.symm.trans busy
  · refine starts.trans (congrArg (fun t => finish (State.answered t .done)) ?_)
    have wait : setDueTime n b.segment (s.leaving rest).now c.startOffset (s.leaving rest) = _ :=
      setDueTime_later (by
        have : c.startOffset.toNat ≠ 0 := fun e => later (BitVec.eq_of_toNat_eq e)
        simp [State.now]
        omega)
    rw [startSurvey_runs (s := s.leaving rest) hb active (serving hs), wait, put]
    exact if_pos rfl
  · obtain ⟨l1, l2, e1, e2, e3, e4⟩ := joinDue_of (s := s.leaving rest) hu b.segment
      ⟨s.timebase.time, s.timebase.time⟩ fresh
    have joined : startSurvey n c (s.leaving rest) = opportunity b.segment (joinDue n b.segment
        ⟨s.timebase.time, s.timebase.time⟩ (s.leaving rest)) := by
      rw [startSurvey_runs (s := s.leaving rest) hb active (serving hs), now, setDueTime_now]
      refine opportunityIfJoined_longer ?_
      have grown : ((joinDue n b.segment ⟨s.timebase.time, s.timebase.time⟩
          (s.leaving rest)).seg b.segment).dueList = l1 ++ n :: l2 := by
        rw [e2, State.seg_putSeg_self]
      change _ < ((joinDue n b.segment ⟨s.timebase.time, s.timebase.time⟩
          (s.leaving rest)).seg b.segment).dueList.length
      rw [grown, e1]
      simp
    rw [e2] at joined
    refine ⟨l1, l2, e1, fun m hm e d hd => ?_, fun m rest' hm e d hd => ?_, ?_, fun busy => ?_⟩
    · refine (e3 m hm e d hd).imp (fun lt c => ?_) And.right
      rw [c] at lt
      exact Nat.lt_irrefl _ lt
    · refine (e4 m rest' hm e d hd).resolve_left fun lt => ?_
      simp at lt
    · exact starts.trans (congrArg (fun t => finish (State.answered t .done)) joined)
    · refine starts.trans (congrArg (fun t => finish (State.answered t .done)) (joined.trans ?_))
      exact opportunity_notIdle (by rw [State.seg_putSeg_self]; exact busy)

end Sys2Proof.Machine
end


section
/-! The release of held survey entries (R162), MAP_REINSTATE (R14) and SEGMENT_ENABLE (R75). -/

namespace Sys2Proof.Machine

/-! ### Held entries that fall due now (R162) -/

/-- The entry is HELD and `pick` names its LT. -/
def State.releases (s : State) (pick : LtId → Bool) (n : SvId) : Prop :=
  ∃ c, (s.sv n).setup = some ⟨c, .held⟩ ∧ pick c.lt = true

/-- Some entries of `s` have been released on segment `i`: those of a list whose LTs `pick` names. -/
structure ReleasedOf (s w : State) (i : SegId) (pick : LtId → Bool) (l : List SvId) : Prop where
  rest : w = { s with survey := w.survey, segs := w.segs }
  ran (n : SvId) : n ∈ l → s.releases pick n → w.sv n = { s.sv n with
    setup := (s.sv n).setup.map fun u => ⟨u.conf, .due ⟨s.timebase.time, s.timebase.time⟩⟩ }
  stood (n : SvId) : ¬ (n ∈ l ∧ s.releases pick n) → w.sv n = s.sv n
  seg (j : SegId) : w.seg j = { s.seg j with dueList := (w.seg j).dueList }
  others (j : SegId) : j ≠ i → (w.seg j).dueList = (s.seg j).dueList
  order : (s.seg i).dueList.Sublist (w.seg i).dueList
  mem (n : SvId) : n ∈ (w.seg i).dueList ↔ n ∈ (s.seg i).dueList ∨ n ∈ l ∧ s.releases pick n
  grown : (∃ n ∈ l, s.releases pick n) → (s.seg i).dueList.length < (w.seg i).dueList.length

theorem ReleasedOf.nil (s : State) (i : SegId) (pick : LtId → Bool) : ReleasedOf s s i pick [] where
  rest := rfl
  ran _ h := nomatch h
  stood _ _ := rfl
  seg _ := rfl
  others _ _ := rfl
  order := List.Sublist.refl _
  mem n := by simp
  grown := by simp

/-- An entry that is not released leaves the release as it is. -/
theorem ReleasedOf.skip {s w : State} {i : SegId} {pick : LtId → Bool} {l : List SvId} {n : SvId}
    (h : ReleasedOf s w i pick l) (hn : ¬ s.releases pick n) : ReleasedOf s w i pick (n :: l) := by
  have same (m : SvId) : m ∈ n :: l ∧ s.releases pick m ↔ m ∈ l ∧ s.releases pick m := by
    refine ⟨fun ⟨hm, hr⟩ => ⟨(List.mem_cons.1 hm).resolve_left ?_, hr⟩, fun ⟨hm, hr⟩ =>
      ⟨List.mem_cons_of_mem n hm, hr⟩⟩
    rintro rfl
    exact hn hr
  exact { h with
    ran := fun m hm hr => h.ran m ((same m).1 ⟨hm, hr⟩).1 hr
    stood := fun m hm => h.stood m (mt (same m).2 hm)
    mem := fun m => by rw [h.mem, same]
    grown := fun ⟨m, hm, hr⟩ => h.grown ⟨m, (same m).1 ⟨hm, hr⟩⟩ }

/-- An entry released joins the due list. -/
theorem ReleasedOf.join {s w : State} {i : SegId} {pick : LtId → Bool} {l : List SvId} {n : SvId}
    (h : ReleasedOf s w i pick l) (hl : n ∉ l) (hn : s.releases pick n) :
    ReleasedOf s (joinDue n i ⟨s.timebase.time, s.timebase.time⟩ w) i pick (n :: l) := by
  obtain ⟨c, hc, -⟩ := id hn
  have at_n : w.sv n = s.sv n := h.stood n fun k => hl k.1
  have put := putSvRun_of (s := w) (n := n) (by rw [at_n]; exact hc)
    (.due ⟨s.timebase.time, s.timebase.time⟩)
  have time : w.timebase = s.timebase := by rw [h.rest]
  refine ⟨?_, fun m hm hr => ?_, fun m hm => ?_, fun j => ?_, fun j hj => ?_, ?_, fun m => ?_, fun _ => ?_⟩
  · rw [joinDue, h.rest]
    rfl
  · rw [joinDue, put, State.sv_putSeg_read, State.sv_putSv]
    by_cases e : n = m
    · subst e
      rw [if_pos rfl, at_n, hc]
      rfl
    · rw [if_neg e]
      exact h.ran m ((List.mem_cons.1 hm).resolve_left (Ne.symm e)) hr
  · rw [joinDue, put, State.sv_putSeg_read, State.sv_putSv, if_neg]
    · exact h.stood m fun k => hm ⟨List.mem_cons_of_mem n k.1, k.2⟩
    · rintro rfl
      exact hm ⟨List.mem_cons_self, hn⟩
  · rw [joinDue, State.seg_putSeg]
    split
    · next e =>
      subst e
      rw [State.seg_putSvRun_read, h.seg]
    · rw [State.seg_putSvRun_read]
      exact h.seg j
  · rw [joinDue, State.seg_putSeg, if_neg (Ne.symm hj), State.seg_putSvRun_read]
    exact h.others j hj
  · rw [joinDue, State.seg_putSeg_self, State.seg_putSvRun_read]
    exact h.order.trans (sublist_insertDue _ n _)
  · rw [joinDue, State.seg_putSeg_self, State.seg_putSvRun_read]
    simp only [mem_insertDue, h.mem, List.mem_cons]
    constructor
    · rintro (rfl | h | ⟨h1, h2⟩)
      · exact .inr ⟨.inl rfl, hn⟩
      · exact .inl h
      · exact .inr ⟨.inr h1, h2⟩
    · rintro (h | ⟨rfl | h1, h2⟩)
      · exact .inr (.inl h)
      · exact .inl rfl
      · exact .inr (.inr ⟨h1, h2⟩)
  · rw [joinDue, State.seg_putSeg_self, State.seg_putSvRun_read]
    simp only [length_insertDue]
    exact Nat.lt_succ_of_le h.order.length_le

/-- A fold that releases an entry exactly where it is to be released releases them all. -/
theorem ReleasedOf.fold {s : State} {i : SegId} {pick : LtId → Bool} {step : SvId → State → State}
    (h : ∀ n t, t.map = s.map → (∀ j, (t.seg j).state = (s.seg j).state) → t.timebase = s.timebase →
      t.sv n = s.sv n → (s.releases pick n →
        step n t = joinDue n i ⟨s.timebase.time, s.timebase.time⟩ t) ∧
      (¬ s.releases pick n → step n t = t)) :
    ∀ (l done : List SvId) (w : State), (l ++ done).Nodup → ReleasedOf s w i pick done →
      ReleasedOf s (l.foldl (fun t n => step n t) w) i pick (l.reverse ++ done)
  | [], done, w, _, hw => hw
  | n :: l, done, w, hd, hw => by
    have hn : n ∉ done := fun k => (List.nodup_cons.1 hd).1 (List.mem_append_right l k)
    obtain ⟨joins, skips⟩ := h n w (by rw [hw.rest]) (fun j => by rw [hw.seg]) (by rw [hw.rest])
      (hw.stood n fun k => hn k.1)
    rw [List.foldl_cons, List.reverse_cons, List.append_assoc]
    have nodup : (l ++ n :: done).Nodup := List.nodup_middle.2 hd
    refine ReleasedOf.fold h l (n :: done) _ nodup ?_
    by_cases hr : s.releases pick n
    · rw [joins hr]
      exact hw.join hn hr
    · rw [skips hr]
      exact hw.skip hr

/-- Over all the entries it is the release the statements speak of. -/
theorem ReleasedOf.released {s w : State} {i : SegId} {pick : LtId → Bool} {l : List SvId}
    (h : ReleasedOf s w i pick l) (all : ∀ n, n ∈ l) : s.released w i pick := by
  refine ⟨h.rest, fun n => ?_, h.seg, h.others, h.order, fun n => ?_⟩
  · by_cases hr : s.releases pick n
    · rw [h.ran n (all n) hr]
      obtain ⟨c, hc, hp⟩ := hr
      rw [hc, Option.map_some, Option.map_some]
      dsimp only
      rw [if_pos ⟨rfl, hp⟩]
    · have same : ((s.sv n).setup.map fun u => if u.run = .held ∧ pick u.conf.lt = true then
          ⟨u.conf, .due ⟨s.timebase.time, s.timebase.time⟩⟩ else u) = (s.sv n).setup := by
        cases hu : (s.sv n).setup with
        | none => rfl
        | some u =>
          obtain ⟨c, r⟩ := u
          refine congrArg some (if_neg ?_)
          rintro ⟨rfl, hp⟩
          exact hr ⟨c, hu, hp⟩
      rw [h.stood n fun k => hr k.2, same]
  · rw [h.mem]
    exact or_congr_right (and_iff_right (all n))

/-- R162: a release of the survey entries, all of them. -/
theorem forSurvey_released {s : State} {i : SegId} {pick : LtId → Bool} {step : SvId → State → State}
    (h : ∀ n t, t.map = s.map → (∀ j, (t.seg j).state = (s.seg j).state) → t.timebase = s.timebase →
      t.sv n = s.sv n → (s.releases pick n →
        step n t = joinDue n i ⟨s.timebase.time, s.timebase.time⟩ t) ∧
      (¬ s.releases pick n → step n t = t)) :
    ReleasedOf s (forSurvey step s) i pick ((List.finRange 32).reverse ++ []) :=
  ReleasedOf.fold h _ [] s (by simpa using List.nodup_finRange 32) (ReleasedOf.nil s i pick)

/-! ### Which entries a release reaches -/

/-- R162: an entry whose LT is ACTIVE on a segment that serves falls due now. -/
theorem releaseEntry_joins {s : State} {n : SvId} {c : SurveyConf} {b : Binding}
    (h : (s.sv n).setup = some ⟨c, .held⟩) (hb : (s.entry c.lt).binding = some b) (ha : b.state = .active)
    (hs : (s.segState b.segment).isServing = true) :
    releaseEntry n s = joinDue n b.segment ⟨s.timebase.time, s.timebase.time⟩ s := by
  rw [releaseEntry, svRun_of h, show s.svLt n = some c.lt by simp [State.svLt, h]]
  dsimp only
  rw [hb]
  dsimp only
  rw [if_pos ⟨ha, hs⟩, setDueTime_now]

/-- R162: any other stands. -/
theorem releaseEntry_stays {s : State} {n : SvId} (h : ∀ c b, (s.sv n).setup = some ⟨c, .held⟩ →
    (s.entry c.lt).binding = some b → ¬ (b.state = .active ∧ (s.segState b.segment).isServing = true)) :
    releaseEntry n s = s := by
  unfold releaseEntry
  split
  · next lt hr hl =>
    split
    · next b hb =>
      refine if_neg ?_
      cases hu : (s.sv n).setup with
      | none => simp [State.svRun, hu] at hr
      | some u =>
        obtain ⟨c, r⟩ := u
        simp only [State.svRun, State.svLt, hu, Option.map_some, Option.some.injEq] at hr hl
        subst hr
        subst hl
        exact h c b hu hb
    · rfl
  · rfl

theorem svLt_of {s : State} {n : SvId} {u : SurveySetup} (h : (s.sv n).setup = some u) :
    s.svLt n = some u.conf.lt := by
  simp [State.svLt, h]

/-- R12, R162: the release of the entries of an ACTIVE target on a segment that serves. -/
theorem releaseTarget_released {s : State} {lt : LtId} {b : Binding} (hb : (s.entry lt).binding = some b)
    (ha : b.state = .active) (hs : (s.segState b.segment).isServing = true) :
    ReleasedOf s (releaseTarget lt s) b.segment (· == lt) ((List.finRange 32).reverse ++ []) := by
  refine forSurvey_released fun n t hm hst ht hn => ⟨fun ⟨c, hc, hp⟩ => ?_, fun hr => ?_⟩
  · have e : c.lt = lt := by simpa using hp
    have hc' : (t.sv n).setup = some ⟨c, .held⟩ := by rw [hn]; exact hc
    rw [if_pos ((svLt_of hc').trans (congrArg some e)), releaseEntry_joins hc'
      (b := b) (by rw [e, State.entry, hm]; exact hb) ha (by rw [State.segState, hst]; exact hs), ht]
  · split
    · next hl =>
      refine releaseEntry_stays fun c x hc _ _ => hr ⟨c, hn ▸ hc, ?_⟩
      have := (svLt_of hc).symm.trans hl
      simpa using this
    · rfl

/-- R12, R162: on a segment that serves nothing they stay HELD. -/
theorem releaseTarget_stays {s : State} {lt : LtId} (h : ∀ n c b, (s.sv n).setup = some ⟨c, .held⟩ →
    c.lt = lt → (s.entry lt).binding = some b →
      ¬ (b.state = .active ∧ (s.segState b.segment).isServing = true)) : releaseTarget lt s = s := by
  refine forSurvey_still fun n => ?_
  split
  · next hl =>
    refine releaseEntry_stays fun c b hc hb => ?_
    have e : c.lt = lt := by simpa using (svLt_of hc).symm.trans hl
    exact h n c b hc e (e ▸ hb)
  · rfl

/-- R75, R122, R162: the release of the entries of a segment that serves. -/
theorem releaseSegment_released {s : State} {i : SegId} (hs : (s.segState i).isServing = true) :
    ReleasedOf s (releaseSegment i s) i (s.activeOn i) ((List.finRange 32).reverse ++ []) := by
  refine forSurvey_released fun n t hm hst ht hn => ⟨fun ⟨c, hc, hp⟩ => ?_, fun hr => ?_⟩
  · obtain ⟨b, hb, hon⟩ := (Option.any_eq_true _ _).1 hp
    obtain ⟨hi, ha⟩ : b.segment = i ∧ b.state = .active := by simpa using hon
    have hc' : (t.sv n).setup = some ⟨c, .held⟩ := by rw [hn]; exact hc
    have hb' : (t.entry c.lt).binding = some b := by rw [State.entry, hm]; exact hb
    rw [if_pos (by rw [svSeg_of hc', hb', ← hi]; rfl), releaseEntry_joins hc' hb' ha
      (by rw [State.segState, hst, hi]; exact hs), ht, hi]
  · split
    · next hseg =>
      refine releaseEntry_stays fun c x hc hb hon => hr ⟨c, hn ▸ hc, ?_⟩
      have e : x.segment = i := by
        rw [svSeg_of hc, hb] at hseg
        simpa using hseg
      have hb' : (s.entry c.lt).binding = some x := by rw [State.entry, ← hm]; exact hb
      rw [State.activeOn, hb']
      simp [e, hon.1]
    · rfl

/-- R162: with none of them HELD the release does nothing. -/
theorem releaseSegment_stays {s : State} {i : SegId}
    (h : ∀ n, s.svSeg n = some i → s.svRun n ≠ some .held) : releaseSegment i s = s := by
  refine forSurvey_still fun n => ?_
  split
  · next hseg => exact releaseEntry_stays fun c b hc _ => absurd (svRun_of hc) (h n hseg)
  · rfl

end Sys2Proof.Machine
end


section
/-! MAP_REINSTATE (R14) and SEGMENT_ENABLE (R75): what they release, and that an examination leaves a segment
in service where it is. -/

namespace Sys2Proof.Machine

/-! ### A segment that is not IDLE keeps its state through an examination -/

/-- Segment `i`, if it is not IDLE, is in the same state. -/
def StaysBusy (i : SegId) (s t : State) : Prop :=
  (s.seg i).state ≠ .idle → (t.seg i).state = (s.seg i).state

theorem StaysBusy.refl (i : SegId) (s : State) : StaysBusy i s s := fun _ => rfl

theorem StaysBusy.trans {i : SegId} {s t u : State} (h : StaysBusy i s t) (k : StaysBusy i t u) :
    StaysBusy i s u := fun hs => (k (by rw [h hs]; exact hs)).trans (h hs)

theorem StaysBusy.ofSegs {i : SegId} {s t : State} (h : t.segs = s.segs) : StaysBusy i s t := fun _ => by
  rw [State.seg, h]
  rfl

theorem StaysBusy.putSeg {i j : SegId} {s : State} {g : Segment}
    (h : j = i → g.state = (s.seg i).state) : StaysBusy i s (s.putSeg j g) := fun _ => by
  rw [State.seg_putSeg]
  split
  · next e => exact h e
  · rfl

theorem leaveDue_staysBusy (i : SegId) (n : SvId) (s : State) : StaysBusy i s (leaveDue n s) := by
  unfold leaveDue
  split
  · exact .refl i s
  · exact .putSeg fun e => by rw [e]

theorem beginWork_staysBusy {i j : SegId} (h : j ≠ i) (w : Work) (lt : Option LtId) (script : List BusItem)
    (s : State) : StaysBusy i s (beginWork j w lt script s) := by
  rw [beginWork_eq]
  exact .putSeg fun e => absurd e h

theorem grant_staysBusy {i j : SegId} (h : j ≠ i) (c : Choice) (s : State) :
    StaysBusy i s (grant j c s) := by
  have other (g : Segment) (u : State) : StaysBusy i u (u.putSeg j g) := .putSeg fun e => absurd e h
  cases c with
  | alert => exact (other _ s).trans (beginWork_staysBusy h _ _ _ _)
  | survey n =>
    unfold grant grantSurvey
    dsimp only
    split
    · split
      · have listed : StaysBusy i s (putConsecHost j 0 (leaveDue n s)) :=
          (leaveDue_staysBusy i n s).trans (other _ _)
        exact .trans (.trans listed (.ofSegs (by rfl))) (beginWork_staysBusy h _ _ _ _)
      · exact .refl i s
    · exact .refl i s
  | host k =>
    unfold grant grantHost
    dsimp only
    split
    · split
      · have listed : StaysBusy i s (leavePending j k (putConsecHost j (consecAfterHost (s.seg j)) s)) :=
          (other _ s).trans (other _ _)
        exact .trans (.trans listed (.ofSegs (by rfl))) (beginWork_staysBusy h _ _ _ _)
      · exact .refl i s
    · exact .refl i s

theorem arbitrate_staysBusy (i j : SegId) (s : State) : StaysBusy i s (arbitrate j s) := by
  by_cases h : j = i
  · subst h
    intro hs
    rw [arbitrate_notIdle hs]
  · unfold arbitrate
    split
    · split
      · exact .putSeg fun e => absurd e h
      · split
        · exact grant_staysBusy h _ s
        · exact .refl i s
    · exact .refl i s

theorem foldl_staysBusy {α : Type} {i : SegId} {f : α → State → State}
    (h : ∀ a s, StaysBusy i s (f a s)) : ∀ (l : List α) (s : State),
    StaysBusy i s (l.foldl (fun t a => f a t) s)
  | [], s => .refl i s
  | a :: l, s => (h a s).trans (foldl_staysBusy h l (f a s))

theorem setRq_segs (q : List RqEntry) (s : State) : (setRq q s).segs = s.segs := by
  unfold setRq
  split <;> rfl

theorem postItem_segs (it : PostItem) (s : State) : (postItem it s).segs = s.segs := by
  unfold postItem
  cases it with
  | entry tag =>
    dsimp only
    split
    · exact setRq_segs _ _
    · rfl
  | context c =>
    dsimp only
    split
    · split <;> rfl
    · rfl

theorem postFrom_segs : ∀ (l : List PostItem) (s : State), (postFrom l s).segs = s.segs
  | [], _ => rfl
  | it :: l, s => by
    unfold postFrom
    split
    · exact (postFrom_segs l _).trans (postItem_segs it s)
    · rfl

theorem finishQueued_segs (tag : Byte) (f : RqFinish) (s : State) : (finishQueued tag f s).segs = s.segs :=
  postFrom_segs _ _

theorem placeSlots_staysBusy (i : SegId) (c : CtxId) (r : Request) :
    ∀ (l : List LiveTarget) (ks : List SlotId) (s : State), StaysBusy i s (placeSlots c r l ks s)
  | [], _, s => .refl i s
  | _ :: _, [], s => .refl i s
  | t :: ts, k :: ks, s =>
    .trans (t := placeSlot c r t k s)
      (.trans (t := addRef t.lt (s.putSlot k _)) (.ofSegs rfl) (.putSeg fun e => by rw [e]))
      (placeSlots_staysBusy i c r ts ks _)

theorem examineOnce_staysBusy (i : SegId) {s t : State} (h : examineOnce s = some t) : StaysBusy i s t := by
  unfold examineOnce at h
  split at h
  · cases h
  · dsimp only at h
    split at h
    · cases h
      exact .ofSegs (finishQueued_segs _ _ s)
    · split at h
      · split at h
        · cases h
          refine .trans (.ofSegs (t := (setRq _ s).putCtx _ _) (setRq_segs _ s))
            (.trans (placeSlots_staysBusy i _ _ _ _ _) (foldl_staysBusy (fun j u => ?_) _ _))
          split
          · exact arbitrate_staysBusy i j u
          · exact .refl i u
        · cases h
      · cases h

theorem examineUpTo_staysBusy (i : SegId) : ∀ (n : Nat) (s : State), StaysBusy i s (examineUpTo n s)
  | 0, s => .refl i s
  | n + 1, s => by
    unfold examineUpTo
    split
    · exact .refl i s
    · next t h => exact (examineOnce_staysBusy i h).trans (examineUpTo_staysBusy i n t)

theorem examine_notIdle {s : State} {i : SegId} (h : (s.seg i).state ≠ .idle) :
    ((examine s).seg i).state ≠ .idle := by
  rw [examine, examineUpTo_staysBusy i _ s h]
  exact h

/-! ### MAP_REINSTATE (R14) -/

theorem mapReinstate_other {s : State} {lt : LtId} (h : (s.arg 0).toNat = lt.val)
    (hb : ∀ b, (s.entry lt).binding = some b → b.state ≠ .isolated) :
    mapReinstate s = s.answered .notIsolated := by
  rw [mapReinstate, argLt_of h]
  dsimp only
  cases hx : (s.entry lt).binding with
  | none => rfl
  | some b =>
    dsimp only
    cases hs : b.state with
    | isolated => exact absurd hs (hb b hx)
    | active | draining => rfl

theorem mapReinstate_isolated {s : State} {lt : LtId} {b : Binding} (h : (s.arg 0).toNat = lt.val)
    (hb : (s.entry lt).binding = some b) (hs : b.state = .isolated) :
    mapReinstate s = (reinstateTarget lt b s).answered .done := by
  rw [mapReinstate, argLt_of h]
  dsimp only
  rw [hb]
  dsimp only
  rw [hs]
  rfl

/-- R14, R92: the entry is ACTIVE and its held survey entries are released; the due list grown is a grant
opportunity after the examination. -/
theorem reinstateTarget_of (lt : LtId) (b : Binding) (s : State) {v w : State}
    (hv : v = s.putEntry lt ⟨some { b with state := .active }, 0, (s.entry lt).refCount⟩)
    (hw : releaseTarget lt v = w) :
    reinstateTarget lt b s = opportunityIfJoined b.segment s w (examine w) := by
  subst hw hv
  rfl

/-- Settles O33, by what is HELD and by the segment. -/
theorem mapReinstateByState : Obligations.MapReinstateByState := by
  intro s rest h
  dsimp only
  have at_hand : exec .mapReinstate s = finish (mapReinstate (s.leaving rest)) :=
    congrArg finish (takeCommand_at (codeIs 0x03) mapReinstate h rfl)
  refine ⟨fun bad => at_hand.trans (congrArg finish ?_), fun lt hlt => ⟨fun hb =>
    at_hand.trans (congrArg finish (mapReinstate_other (s := s.leaving rest) hlt hb)), fun b hb hs => ?_⟩⟩
  · rw [mapReinstate, argLt_none (s := s.leaving rest) bad]
    rfl
  obtain ⟨v, hv⟩ : ∃ v, v = (s.leaving rest).putEntry lt
    ⟨some { b with state := .active }, 0, (s.entry lt).refCount⟩ := ⟨_, rfl⟩
  rw [← hv]
  have answers {w t : State} (hw : releaseTarget lt v = w)
      (ht : opportunityIfJoined b.segment (s.leaving rest) w (examine w) = t) :
      exec .mapReinstate s = finish (t.answered .done) := by
    rw [at_hand, mapReinstate_isolated (s := s.leaving rest) hlt hb hs,
      reinstateTarget_of lt b _ hv hw, ht]
  have bound : (v.entry lt).binding = some { b with state := .active } := by
    rw [hv, State.entry_putEntry_self]
  have seg (i : SegId) : v.seg i = s.seg i := by rw [hv]; rfl
  have sv (n : SvId) : v.sv n = s.sv n := by rw [hv]; rfl
  have released (hs : (s.seg b.segment).state.isServing = true) := releaseTarget_released bound rfl
    (show (v.seg b.segment).state.isServing = true by rw [seg]; exact hs)
  have all (n : SvId) : n ∈ (List.finRange 32).reverse ++ [] := by simp
  refine ⟨fun none => ?_, fun h1 h2 => ?_, fun cur busy => ?_, fun n c idle held hlt' => ?_⟩
  · refine answers (releaseTarget_stays fun n c x hc hl _ _ => none n c (sv n ▸ hc) hl) ?_
    exact if_pos (by rw [seg]; rfl)
  · refine answers (releaseTarget_stays fun n c x hc hl hx on => ?_) ?_
    · cases bound.symm.trans hx
      rcases isServing_iff.1 on.2 with idle | ⟨w, busy⟩
      · exact h1 (seg _ ▸ idle)
      · exact h2 w (seg _ ▸ busy)
    · exact if_pos (by rw [seg]; rfl)
  · have rel := released (isServing_iff.2 (.inr ⟨cur, busy⟩))
    refine ⟨_, rel.released all, answers rfl ?_⟩
    unfold opportunityIfJoined
    split
    · rfl
    · refine opportunity_notIdle (examine_notIdle ?_)
      rw [rel.seg, seg, busy]
      exact nofun
  · have rel := released (isServing_iff.2 (.inl idle))
    refine ⟨_, rel.released all, answers rfl (opportunityIfJoined_longer ?_)⟩
    have := rel.grown ⟨n, all n, c, by rw [sv]; exact held, by simp [hlt']⟩
    rw [seg] at this
    exact this

/-! ### SEGMENT_ENABLE (R75) -/

theorem segmentEnable_on {s : State} {i : SegId} (h : (s.arg 0).toNat = i.val)
    (hs : (s.seg i).state ≠ .disabled) : segmentEnable s = s.answered .inUse := by
  rw [segmentEnable, argSeg_of h]
  exact if_neg (mt segState_isDisabled.1 hs)

theorem segmentEnable_off {s : State} {i : SegId} (h : (s.arg 0).toNat = i.val)
    (hs : (s.seg i).state = .disabled) : segmentEnable s =
      (opportunity i (examine (releaseSegment i (s.putSeg i (s.seg i).enabled)))).answered .done := by
  rw [segmentEnable, argSeg_of h]
  exact if_pos (segState_isDisabled.2 hs)

/-- Settles O37: the release, and what the arbiter finds after it. -/
theorem segmentEnableStarts : Obligations.SegmentEnableStarts := by
  intro s rest h
  dsimp only
  have at_hand : exec .segmentEnable s = finish (segmentEnable (s.leaving rest)) :=
    congrArg finish (takeCommand_at (codeIs 0x08) segmentEnable h rfl)
  refine ⟨fun bad => at_hand.trans (congrArg finish ?_), fun i hi => ⟨fun on =>
    at_hand.trans (congrArg finish (segmentEnable_on (s := s.leaving rest) hi on)), fun off hq => ?_,
    fun off hq noneHeld => ?_⟩⟩
  · rw [segmentEnable, argSeg_none (s := s.leaving rest) bad]
    rfl
  all_goals
    obtain ⟨v, hv⟩ : ∃ v, v = (s.leaving rest).putSeg i { s.seg i with
      state := .idle, consecHost := 0, busFree := false, alert := ⟨none, 0, 0, false⟩ } := ⟨_, rfl⟩
    have enabled : exec .segmentEnable s =
        finish ((opportunity i (examine (releaseSegment i v))).answered .done) := by
      rw [hv]
      exact at_hand.trans (congrArg finish (segmentEnable_off (s := s.leaving rest) hi off))
    rw [← hv]
    have on : v.seg i = { s.seg i with
        state := .idle, consecHost := 0, busFree := false, alert := ⟨none, 0, 0, false⟩ } := by
      rw [hv, State.seg_putSeg_self]
  · have rel := releaseSegment_released (s := v) (i := i) (by rw [State.segState, on]; rfl)
    have active : v.activeOn i = s.activeOn i := by rw [hv]; rfl
    have rq : (releaseSegment i v).rq = s.rq := by rw [rel.rest, hv]; rfl
    rw [active] at rel
    refine ⟨_, rel.released (by simp), enabled.trans ?_⟩
    rw [examine_stay hq rq, opportunity_noneQueued i (by rw [State.noneQueued, rq]; exact hq)]
  · have stays : releaseSegment i v = v := releaseSegment_stays fun n hn => by
      rw [hv] at hn ⊢
      exact noneHeld n hn
    have rq : v.rq = s.rq := by rw [hv]; rfl
    rw [stays, examine_stay hq rq] at enabled
    refine ⟨fun free quiet => enabled.trans ?_, fun held => enabled.trans ?_⟩
    · rw [opportunity_noWork (by rw [on]; exact free) (by rw [on]; exact quiet)]
    · rw [opportunity_noneQueued i (by rw [State.noneQueued, rq]; exact hq),
        arbitrate_lineHeld (by rw [on]) (by rw [on]; exact held), enterRecovering, on, hv, State.putSeg_putSeg]

end Sys2Proof.Machine
end


section
/-! Posting (R38, R56, R68, R134, R135, R137): what the postings leave, and the records they make. -/

namespace Sys2Proof.Machine

/-! ### How far posting goes -/

theorem pushRecord_completion (r : CompletionRecord) (s : State) :
    (pushRecord r s).completion = { s.completion with cq := s.completion.cq ++ [⟨r, 0⟩] } := rfl

theorem setRq_completion (q : List RqEntry) (s : State) : (setRq q s).completion = s.completion := by
  unfold setRq
  split <;> rfl

/-- R135: one posting adds at most one record, with AGE 0. -/
theorem postItem_cq (it : PostItem) (s : State) : ∃ l, (postItem it s).completion.cq =
    s.completion.cq ++ l ∧ ∀ x ∈ l, x.age = 0 := by
  have none : ∃ l, s.completion.cq = s.completion.cq ++ l ∧ ∀ x ∈ l, x.age = 0 := ⟨[], by simp, nofun⟩
  have one (r : CompletionRecord) : ∃ l, s.completion.cq ++ [⟨r, 0⟩] = s.completion.cq ++ l ∧
      ∀ x ∈ l, x.age = 0 := ⟨_, rfl, by simp⟩
  unfold postItem
  cases it with
  | entry tag =>
    dsimp only
    split
    · rw [setRq_completion]
      exact one _
    · exact none
  | context c =>
    dsimp only
    split
    · split
      · exact one _
      · exact none
    · exact none

/-- R135: posting goes on until the list is empty or the CQ full, and leaves the list's tail. -/
theorem postFrom_spec : ∀ (l : List PostItem) (s : State),
    ((postFrom l s).completion.posting = [] ∨ 32 ≤ (postFrom l s).completion.cq.length) ∧
    (∃ r, (postFrom l s).completion.cq = s.completion.cq ++ r ∧ ∀ x ∈ r, x.age = 0) ∧
    ∃ d, l = d ++ (postFrom l s).completion.posting
  | [], s => ⟨.inl rfl, ⟨[], by simp [postFrom], nofun⟩, [], rfl⟩
  | it :: l, s => by
    by_cases h : s.completion.cq.length < 32
    · have e : postFrom (it :: l) s = postFrom l (postItem it s) := if_pos h
      obtain ⟨full, ⟨r, hr, age⟩, d, hd⟩ := postFrom_spec l (postItem it s)
      obtain ⟨r1, hr1, age1⟩ := postItem_cq it s
      rw [e]
      refine ⟨full, ⟨r1 ++ r, by rw [hr, hr1, List.append_assoc], fun x hx => ?_⟩, it :: d, ?_⟩
      · exact (List.mem_append.1 hx).elim (age1 x) (age x)
      · rw [List.cons_append, ← hd]
    · have e : postFrom (it :: l) s =
          { s with completion := { s.completion with posting := it :: l } } := if_neg h
      rw [e]
      exact ⟨.inr (Nat.not_lt.1 h), ⟨[], (List.append_nil _).symm, by simp⟩, [], rfl⟩

/-- R135: with nothing to post, or the CQ full, nothing changes. -/
theorem postAll_stays {s : State} (h : s.completion.posting = [] ∨ 32 ≤ s.completion.cq.length) :
    postAll s = s := by
  rcases h with h | h
  · exact postAll_nothing h
  · unfold postAll
    cases hl : s.completion.posting with
    | nil => rw [postFrom, ← hl]
    | cons it l => exact (if_neg (Nat.not_lt.2 h)).trans (by rw [← hl])

/-- R135: the head of the list is posted when the CQ has room, whatever the list is meanwhile. -/
theorem postAll_cons {s : State} {it : PostItem} {rest : List PostItem}
    (h : s.completion.posting = it :: rest) (hc : s.completion.cq.length < 32) :
    postAll s = postFrom rest (postItem it s) := by
  rw [postAll, h]
  exact if_pos hc

theorem postItem_posting (it : PostItem) (s : State) (l : List PostItem) :
    postItem it { s with completion := { s.completion with posting := l } } =
      { postItem it s with completion := { (postItem it s).completion with posting := l } } := by
  unfold postItem
  cases it with
  | entry tag =>
    dsimp only
    have e : finishedEntry? { s with completion := { s.completion with posting := l } } tag =
      finishedEntry? s tag := rfl
    rw [e]
    cases finishedEntry? s tag with
    | none => rfl
    | some p =>
      dsimp only [setRq, pushRecord]
      split <;> rfl
  | context c =>
    dsimp only [State.ctx]
    cases look s.contexts c with
    | none => rfl
    | some x =>
      dsimp only
      cases x.finish <;> rfl

/-- R135: what stands as the list while items are posted does not matter. -/
theorem postFrom_posting : ∀ (l : List PostItem) (s : State) (m : List PostItem),
    postFrom l { s with completion := { s.completion with posting := m } } = postFrom l s
  | [], _, _ => rfl
  | it :: l, s, m => by
    simp only [postFrom]
    rw [postItem_posting, postFrom_posting l]

/-! ### The tags held -/

/-- R31: with the tags distinct an entry is the only one of the RQ with its tag. -/
theorem TagLaw.entry_unique {s : State} (h : TagLaw s) {e x : RqEntry} (he : e ∈ s.rq) (hx : x ∈ s.rq)
    (ht : x.request.tag = e.request.tag) : x = e :=
  List.inj_on_of_nodup_map (List.nodup_append.1 h).1 hx he ht

/-- The part of the RQ before an entry has another tag. -/
theorem TagLaw.split {s : State} (h : TagLaw s) {e : RqEntry} (he : e ∈ s.rq) :
    ∃ l1 l2, s.rq = l1 ++ e :: l2 ∧ (∀ x ∈ l1, x.request.tag ≠ e.request.tag) ∧
      ∀ x ∈ l2, x.request.tag ≠ e.request.tag := by
  obtain ⟨l1, l2, hl⟩ := List.append_of_mem he
  have nodup : (s.rq.map (·.request.tag)).Nodup := (List.nodup_append.1 h).1
  rw [hl, List.map_append, List.map_cons, List.nodup_middle, List.nodup_cons, List.mem_append,
    not_or] at nodup
  exact ⟨l1, l2, hl, fun x hx c => nodup.1.1 (List.mem_map.2 ⟨x, hx, c⟩),
    fun x hx c => nodup.1.2 (List.mem_map.2 ⟨x, hx, c⟩)⟩

theorem eraseP_middle {α : Type} {p : α → Bool} {l1 l2 : List α} {a : α} (h : ∀ x ∈ l1, p x = false)
    (ha : p a = true) : (l1 ++ a :: l2).eraseP p = l1 ++ l2 := by
  rw [List.eraseP_append_right _ fun x hx => by simp [h x hx], List.eraseP_cons_of_pos ha]

/-- R37: an entry that leaves the RQ latches RQ_SPACE when the RQ was full. -/
theorem setRq_shorter {s : State} {q : List RqEntry} (h : q.length < s.rq.length) : setRq q s = { s with
    rq := q, irq := { s.irq with rqSpace := s.irq.rqSpace || s.rq.length == 32 } } := by
  unfold setRq Config.rqCapacity
  by_cases full : s.rq.length = 32
  · rw [if_pos ⟨full, by omega⟩]
    simp [latchRqSpace, full]
  · rw [if_neg fun c => full c.1, beq_false_of_ne full, Bool.or_false]

/-- R135: a FINISHED RQ entry posted. -/
theorem postItem_entry {s : State} {e : RqEntry} {f : RqFinish} {l1 l2 : List RqEntry}
    (hl : s.rq = l1 ++ e :: l2) (h1 : ∀ x ∈ l1, x.request.tag ≠ e.request.tag) (hf : e.finish = some f) :
    postItem (.entry e.request.tag) s = { pushRecord (entryRecord e f) s with
      rq := l1 ++ l2, irq := { s.irq with rqSpace := s.irq.rqSpace || s.rq.length == 32 } } := by
  have found : finishedEntry? s e.request.tag = some (e, f) := by
    unfold finishedEntry?
    rw [hl, List.findSome?_append, List.findSome?_eq_none_iff.2 fun x hx => if_neg (h1 x hx)]
    simp [hf]
  have erased : s.rq.eraseP (fun x => x.request.tag == e.request.tag && !x.queued) = l1 ++ l2 := by
    rw [hl]
    exact eraseP_middle (fun x hx => by simp [h1 x hx]) (by simp [RqEntry.queued, hf])
  rw [postItem, found]
  dsimp only
  rw [erased, setRq_shorter (by change _ < s.rq.length; rw [hl]; simp)]
  rfl

/-- R38: an entry that finishes does so in its place. -/
theorem map_finish_middle {l1 l2 : List RqEntry} {e : RqEntry} (f : RqFinish)
    (h1 : ∀ x ∈ l1, x.request.tag ≠ e.request.tag) (h2 : ∀ x ∈ l2, x.request.tag ≠ e.request.tag)
    (hq : e.finish = none) : ((l1 ++ e :: l2).map fun x => if x.request.tag = e.request.tag ∧ x.queued then
      { x with finish := some f } else x) = l1 ++ { e with finish := some f } :: l2 := by
  have same {l : List RqEntry} (h : ∀ x ∈ l, x.request.tag ≠ e.request.tag) : (l.map fun x =>
      if x.request.tag = e.request.tag ∧ x.queued then { x with finish := some f } else x) = l :=
    (List.map_congr_left fun x hx => if_neg fun c : x.request.tag = e.request.tag ∧ x.queued = true =>
      h x hx c.1).trans (List.map_id' l)
  rw [List.map_append, List.map_cons, same h1, same h2, if_pos ⟨rfl, by simp [RqEntry.queued, hq]⟩]

/-! ### The fields of a record (R56, R137) -/

theorem foldl_max_spec : ∀ (l : List Nat) (b : Nat), b ≤ l.foldl max b ∧ (∀ a ∈ l, a ≤ l.foldl max b) ∧
    (l.foldl max b = b ∨ l.foldl max b ∈ l)
  | [], b => ⟨Nat.le_refl b, nofun, .inl rfl⟩
  | a :: l, b => by
    obtain ⟨h1, h2, h3⟩ := foldl_max_spec l (max b a)
    refine ⟨(Nat.le_max_left b a).trans h1, List.forall_mem_cons.2 ⟨(Nat.le_max_right b a).trans h1, h2⟩, ?_⟩
    rcases h3 with h3 | h3
    · rw [List.foldl_cons, h3]
      rcases Nat.le_total a b with h | h
      · exact .inl (Nat.max_eq_left h)
      · exact .inr (by rw [Nat.max_eq_right h]; exact List.mem_cons_self)
    · exact .inr (List.mem_cons_of_mem a h3)

theorem foldl_min_spec : ∀ (l : List Nat) (b : Nat), l.foldl min b ≤ b ∧ (∀ a ∈ l, l.foldl min b ≤ a) ∧
    (l.foldl min b = b ∨ l.foldl min b ∈ l)
  | [], b => ⟨Nat.le_refl b, nofun, .inl rfl⟩
  | a :: l, b => by
    obtain ⟨h1, h2, h3⟩ := foldl_min_spec l (min b a)
    refine ⟨h1.trans (Nat.min_le_left b a), List.forall_mem_cons.2 ⟨h1.trans (Nat.min_le_right b a), h2⟩, ?_⟩
    rcases h3 with h3 | h3
    · rw [List.foldl_cons, h3]
      rcases Nat.le_total a b with h | h
      · exact .inr (by rw [Nat.min_eq_right h]; exact List.mem_cons_self)
      · exact .inl (Nat.min_eq_left h)
    · exact .inr (List.mem_cons_of_mem a h3)

/-- R56: the smallest of a list that is not empty. -/
theorem smallest_spec {l : List Nat} (h : l ≠ []) : smallest l ∈ l ∧ ∀ a ∈ l, smallest l ≤ a := by
  cases l with
  | nil => exact absurd rfl h
  | cons b l =>
    obtain ⟨h1, h2, h3⟩ := foldl_min_spec l b
    exact ⟨List.mem_cons.2 h3, List.forall_mem_cons.2 ⟨h1, h2⟩⟩

/-- R19: the bits of the mask of a set of logical targets. -/
theorem maskOf_getLsbD (l : List LtId) (n : LtId) : (maskOf l).getLsbD n.val = true ↔ n ∈ l := by
  have fold : ∀ (l : List LtId) (m : Mask64),
      (l.foldl (fun m lt => m ||| BitVec.twoPow 64 lt.val) m).getLsbD n.val = true ↔
        m.getLsbD n.val = true ∨ n ∈ l := by
    intro l
    induction l with
    | nil => simp
    | cons a l ih =>
      intro m
      rw [List.foldl_cons, ih, BitVec.getLsbD_or, Bool.or_eq_true, BitVec.getLsbD_twoPow, List.mem_cons,
        or_assoc]
      refine or_congr_right (or_congr_left ?_)
      simp [Fin.ext_iff, @eq_comm _ n.val]
  exact (fold l 0).trans (by simp)

theorem contextRecord_attempts (x : Context) (f : CtxFinish) :
    (∀ m ∈ x.members, m.attempts ≤ (contextRecord x f).attempts) ∧
      ((contextRecord x f).attempts = 0 ∨ ∃ m ∈ x.members, m.attempts = (contextRecord x f).attempts) := by
  obtain ⟨-, h2, h3⟩ := foldl_max_spec (x.members.map (·.attempts)) 0
  exact ⟨fun m hm => h2 _ (List.mem_map_of_mem hm), h3.imp id fun h => List.mem_map.1 h⟩

theorem contextRecord_sets {x : Context} (f : CtxFinish) (h : x.request.isGroup = true) :
    ∃ a b, (contextRecord x f).successSet = some a ∧ (contextRecord x f).failSet = some b ∧
      ∀ n : LtId, (a.getLsbD n.val = true ↔ ∃ m ∈ x.members, m.lt = n ∧ m.outcome = some .done) ∧
        (b.getLsbD n.val = true ↔ ∃ m ∈ x.members, m.lt = n ∧ m.outcome ≠ some .done) := by
  refine ⟨_, _, if_pos h, if_pos h, fun n => ?_⟩
  rw [maskOf_getLsbD, maskOf_getLsbD]
  simp [Context.doneMembers, Context.failedMembers, and_comm (b := _ = n), and_left_comm (b := _ = n)]

/-- R56: BYTES_ACKED of a finishing context. -/
theorem contextBytesAcked_spec (x : Context) :
    (x.request.kind ≠ .write → x.request.kind ≠ .writeRead → contextBytesAcked x = none) ∧
    (x.request.kind = .write ∨ x.request.kind = .writeRead →
      (∀ m, x.request.isGroup = false → x.members = [m] → contextBytesAcked x = some m.bytesAcked) ∧
      (x.request.isGroup = true → ∃ k, contextBytesAcked x = some k ∧
        ((∀ m ∈ x.members, m.attempts = 0) → k = 0) ∧
        (∀ m ∈ x.members, 1 ≤ m.attempts → k ≤ m.bytesAcked) ∧
        ((∃ m ∈ x.members, 1 ≤ m.attempts) →
          ∃ m ∈ x.members, 1 ≤ m.attempts ∧ m.bytesAcked = k))) := by
  refine ⟨fun h1 h2 => if_neg (not_or.2 ⟨h1, h2⟩), fun writes => ⟨fun m single hm => ?_, fun group => ?_⟩⟩
  · rw [contextBytesAcked, if_pos writes, if_neg (by simp [single]), hm]
    rfl
  · refine ⟨_, (if_pos writes).trans (if_pos group), fun none => ?_, fun m hm ha => ?_, fun ⟨m, hm, ha⟩ => ?_⟩
    · rw [List.filter_eq_nil_iff.2 fun m hm => by simp [none m hm]]
      rfl
    all_goals
      have tried : m.bytesAcked ∈ (x.members.filter fun m => decide (1 ≤ m.attempts)).map (·.bytesAcked) :=
        List.mem_map_of_mem (List.mem_filter.2 ⟨hm, by simpa using ha⟩)
      obtain ⟨least, bound⟩ := smallest_spec (List.ne_nil_of_mem tried)
    · exact bound _ tried
    · obtain ⟨m', hm', e⟩ := List.mem_map.1 least
      obtain ⟨mem, pos⟩ := List.mem_filter.1 hm'
      exact ⟨m', mem, by simpa using pos, e⟩

/-- Settles O30: what is left of the list, the head posted, and what joins it. -/
theorem postingMakesRecords : Obligations.PostingMakesRecords := by
  refine ⟨fun s => ?_, fun s e f rest law he hf hp hc => ?_, fun s c x f rest hx hf hp hc => ?_,
    fun s e f law he hq => ?_, fun s c x => ⟨_, rfl, contextBytesAcked_spec x⟩⟩
  · obtain ⟨h1, h2, h3⟩ := postFrom_spec s.completion.posting s
    exact ⟨h1, h2, h3, (postAll_frame s).tags, postAll_stays⟩
  · obtain ⟨l1, l2, hl, h1, -⟩ := law.split he
    refine ⟨l1, l2, hl, ?_⟩
    rw [postAll_cons hp hc, postItem_entry hl h1 hf]
    exact (postFrom_posting rest _ rest).symm
  · have posted : postItem (.context c) s = (pushRecord (contextRecord x f) s).putCtx c none := by
      rw [postItem, hx]
      dsimp only
      rw [hf]
    obtain ⟨most, reached⟩ := contextRecord_attempts x f
    refine ⟨contextRecord x f, ?_, rfl, rfl, rfl, rfl, rfl, rfl, rfl, most, reached, fun single => ?_,
      contextRecord_sets f⟩
    · rw [postAll_cons hp hc, posted]
      exact (postFrom_posting rest _ rest).symm
    · exact ⟨if_neg (by simp [single]), if_neg (by simp [single])⟩
  · obtain ⟨l1, l2, hl, h1, h2⟩ := law.split he
    refine ⟨l1, l2, hl, ?_⟩
    rw [finishQueued, hl, map_finish_middle f h1 h2 hq]
    rfl

end Sys2Proof.Machine
end

section
/-! The bytes of a host attempt's transaction, by KIND (R77 to R84), for O54. -/

namespace Sys2Proof.Machine

/-- An address byte with write direction and `n` written bytes, all acknowledged. -/
def sentBytes (n : Nat) : List BusByte := .acked :: List.replicate n .acked

/-- R77: a write phase carried through. -/
theorem verdict_writePhase (a : BusAddr) (ws : List Byte) (items : List BusItem) (bs : List BusByte) :
    verdict (writePhase a ws ++ items) (sentBytes ws.length ++ bs) =
      runBytes items bs ⟨ws.length, true, []⟩ .write := by
  refine (runBytes_acked ws items bs ⟨0, true, []⟩ ws.length rfl).trans ?_
  rw [Nat.zero_add]

/-- R77: a write phase with byte `j` next. -/
theorem verdict_writePhase_lt (a : BusAddr) {ws : List Byte} {j : Nat} (h : j < ws.length)
    (items : List BusItem) (bs : List BusByte) : ∃ (v : Byte) (rest : List BusItem),
    verdict (writePhase a ws ++ items) (sentBytes j ++ bs) =
      runBytes (.write v :: rest) bs ⟨j, true, []⟩ .write := by
  obtain ⟨v, ws', e⟩ := runBytes_acked_lt ws j h items bs ⟨0, true, []⟩
  rw [Nat.zero_add] at e
  exact ⟨v, List.map BusItem.write ws' ++ items, e⟩

/-- R80, R82, R84: the kinds with a write phase begin with it. -/
theorem hostScript_writes (a : BusAddr) {r : Request}
    (h : r.kind = .write ∨ r.kind = .writeRead ∨ r.kind = .blockRead) :
    ∃ items, hostScript a r = writePhase a r.writeData ++ items := by
  rcases h with h | h | h <;> simp [hostScript, h]

/-- R77, R79: the first address byte ends a transaction when it is not acknowledged or the bus is lost. -/
theorem verdict_hostScript_first (a : BusAddr) (r : Request) :
    verdict (hostScript a r) [.nacked] = .ended ⟨.addressNack, 0, false, []⟩ ∧
      verdict (hostScript a r) [.lost] = .ended ⟨.arbitrationLost, 0, false, []⟩ := by
  cases h : r.kind <;> simp only [hostScript, h] <;> exact ⟨rfl, rfl⟩

/-- R81, R89: a read byte of a READ left unacknowledged before the last. -/
theorem runBytes_cut {vs : List Byte} {n : Nat} (h : vs.length + 1 < n) (v : Byte) (p : Progress)
    (w : Standing) : runBytes (readItems n) (vs.map (.read · true) ++ [.read v false]) p w =
      .cut { p with data := p.data ++ (vs ++ [v]) } := by
  obtain ⟨m, rfl⟩ : ∃ m, n = vs.length + (m + 1) + 1 := ⟨n - vs.length - 2, by omega⟩
  rw [readItems, List.replicate_add, List.append_assoc]
  by_cases e : vs = []
  · subst e
    simp [List.replicate_succ, runBytes, endAt]
  · rw [runBytes_reads vs _ _ _ _ e]
    simp [List.replicate_succ, runBytes, endAt]

/-- TABLE 33: the engine leaves the last byte read unacknowledged. -/
theorem runBytes_last_acked {data : List Byte} (h : data ≠ []) (p : Progress) (w : Standing) :
    runBytes (readItems data.length) (data.map (.read · true)) p w = .misfit := by
  obtain ⟨vs, v, rfl⟩ := (List.eq_nil_or_concat data).resolve_left h
  rw [List.concat_eq_append, List.length_append, List.length_singleton, readItems, List.map_append]
  by_cases e : vs = []
  · subst e
    simp [runBytes]
  · rw [runBytes_reads vs _ _ _ _ e]
    simp [runBytes]

/-- R84: the counts BLOCK_READ accepts. -/
theorem countOk_iff {limit : Nat} {v : Byte} : countOk limit v = true ↔ 1 ≤ v.toNat ∧ v.toNat ≤ limit := by
  simp [countOk]

/-- Settles O54: kind by kind, by the bytes of its script. -/
theorem shapesEndByTheirBytes : Obligations.ShapesEndByTheirBytes := by
  intro a r run w sent
  refine ⟨(verdict_hostScript_first a r).1, (verdict_hostScript_first a r).2, fun writes j hj => ?_,
    fun kind => ?_, fun kind => ?_, fun kind => ⟨fun data len => ?_, fun data some len => ?_,
      fun vs v len => ?_⟩, fun kind => ⟨fun data len => ?_, ?_, ?_⟩, fun kind one => ⟨fun v data low high len => ?_,
      fun v bad => ?_⟩⟩
  · obtain ⟨items, script⟩ := hostScript_writes a writes
    constructor
    all_goals
      obtain ⟨v, rest, e⟩ := verdict_writePhase_lt a hj items [_]
      exact (congrArg (verdict · _) script).trans e
  · have e := verdict_writePhase a r.writeData [] []
    rw [List.append_nil, List.append_nil] at e
    simp only [run, hostScript, kind]
    exact e
  · simp only [run, hostScript, kind]
    rfl
  · simp only [run, hostScript, kind, ← len]
    exact runBytes_all data ⟨0, true, []⟩ .readAddress
  · simp only [run, hostScript, kind, ← len]
    exact runBytes_last_acked some ⟨0, true, []⟩ .readAddress
  · simp only [run, hostScript, kind]
    exact runBytes_cut len v ⟨0, true, []⟩ .readAddress
  · simp only [run, hostScript, kind, ← len]
    exact (verdict_writePhase a r.writeData _ _).trans (runBytes_all data ⟨w, true, []⟩ .readAddress)
  · simp only [run, hostScript, kind]
    exact verdict_writePhase a r.writeData _ _
  · simp only [run, hostScript, kind]
    exact verdict_writePhase a r.writeData _ _
  · have ok : countOk r.readLength v = true := countOk_iff.2 ⟨low, high⟩
    simp only [run, hostScript, kind]
    have e (bs : List BusByte) := verdict_writePhase a r.writeData [.addressRead a, .count r.readLength] bs
    simp only [show r.writeData.length = 1 from one] at e
    refine ⟨(e _).trans ?_, (e _).trans ?_⟩
    · simp only [runBytes, ok, if_true, ← len]
      exact runBytes_all data ⟨1, true, []⟩ .read
    · simp [runBytes, ok, endAt]
  · have out : countOk r.readLength v = false := Bool.eq_false_iff.2 fun ok => by
      have := countOk_iff.1 ok
      omega
    simp only [run, hostScript, kind]
    have e (bs : List BusByte) := verdict_writePhase a r.writeData [.addressRead a, .count r.readLength] bs
    simp only [show r.writeData.length = 1 from one] at e
    refine ⟨(e _).trans ?_, (e _).trans ?_⟩
    · simp [runBytes, out, endAt, Progress.failed]
    · simp [runBytes, out]

end Sys2Proof.Machine
end

section
/-! Deadlines of queued requests and of contexts (R39, R105), for O48. -/

namespace Sys2Proof.Machine

/-- R31: with the tags distinct a tag finds its QUEUED entry. -/
theorem TagLaw.findQueued {s : State} (law : TagLaw s) {e : RqEntry} (he : e ∈ s.rq)
    (hq : e.finish = none) :
    (s.rq.find? fun x => x.request.tag == e.request.tag && x.queued) = some e := by
  cases found : s.rq.find? fun x => x.request.tag == e.request.tag && x.queued with
  | none => exact absurd (List.find?_eq_none.1 found e he) (by simp [RqEntry.queued, hq])
  | some x =>
    have tag : x.request.tag = e.request.tag := by
      have := List.find?_some found
      simp only [Bool.and_eq_true, beq_iff_eq] at this
      exact this.1
    rw [law.entry_unique he (List.mem_of_find?_eq_some found) tag]

/-- R39, R105: the deadline is reached, whatever the wrap of TIME. -/
theorem deadlineReached_iff {r : Request} {start now : Word16} (h : r.deadline ≠ 0) :
    deadlineReached r start now = true ↔ r.deadline.toNat ≤ (now - start).toNat := by
  rw [deadlineReached, bne_iff_ne.2 h, Bool.true_and, decide_eq_true_iff]
  rfl

theorem expireQueued_of {s : State} (law : TagLaw s) {e : RqEntry} (he : e ∈ s.rq) (hq : e.finish = none) :
    expireQueued e.request.tag s = if deadlineReached e.request e.acceptTime s.timebase.time then
      examine (finishQueued e.request.tag (expiryFinish e) s) else s := by
  rw [expireQueued, law.findQueued he hq]
  rfl

/-- R105: a deadline that passes for a RUNNING context. -/
theorem passDeadline_of {s : State} {c : CtxId} {x : Context} (hx : s.ctx c = some x)
    (hf : x.finish = none) (hd : x.deadlinePassed = some false) : passDeadline c s =
      if deadlineReached x.request x.acceptTime s.timebase.time then expireContext c x s else s := by
  rw [passDeadline, hx]
  simp only [hf, hd, Option.isNone_none, true_and, State.now]

/-- R105, R116: the slots of a context belong to it. -/
theorem mem_slotsOf {s : State} {c : CtxId} {k : SlotId} (h : k ∈ slotsOf c s) :
    ∃ o, s.slot k = some o ∧ o.context = c := by
  unfold slotsOf at h
  split at h
  · exact absurd h List.not_mem_nil
  · obtain ⟨m, -, found⟩ := List.mem_filterMap.1 h
    have := List.find?_some found
    split at this
    · next o ho =>
      simp only [Bool.and_eq_true, beq_iff_eq] at this
      exact ⟨o, ho, this.1⟩
    · exact absurd this (by simp)

/-- R58: an ACTIVE slot does not end so. -/
theorem endWaiting_active {s : State} {k : SlotId} {o : OpSlot} {m : Bool} (outcome : Outcome)
    (hk : s.slot k = some o) (h : o.state = .active m) : endWaiting k outcome s = s := by
  rw [endWaiting, hk]
  dsimp only
  rw [h]

theorem endEach_still {outcome : Outcome} {s : State} : ∀ {l : List SlotId},
    (∀ k ∈ l, endWaiting k outcome s = s) → endEach outcome l s = s
  | [], _ => rfl
  | k :: l, h => by
    rw [endEach, h k List.mem_cons_self]
    exact endEach_still fun j hj => h j (List.mem_cons_of_mem k hj)

/-- R105: with every operation on the bus, DEADLINE_PASSED is set alone. -/
theorem expireContext_active {s : State} {c : CtxId} (x : Context)
    (h : ∀ k o, s.slot k = some o → o.context = c → ∃ m, o.state = .active m) :
    expireContext c x s = s.putCtx c (some { x with deadlinePassed := some true }) :=
  endEach_still fun k hk => by
    obtain ⟨o, ho, hc⟩ := mem_slotsOf hk
    obtain ⟨m, hm⟩ := h k o ho hc
    exact endWaiting_active _ ho hm

/-- A context that keeps its request and its members is carried as before. -/
theorem State.carries.putCtx {s : State} {k : SlotId} {o : OpSlot} {c : CtxId} {x y : Context}
    (h : s.carries k o c x) (h1 : y.outstanding = x.outstanding) (h2 : y.finish = x.finish)
    (h3 : y.policy = x.policy) (h4 : y.request = x.request) (h5 : y.members = x.members) :
    (s.putCtx c (some y)).carries k o c y := by
  obtain ⟨hk, -, hctx, hm, hout, hfin, hpol, htgt, hkind, hmem⟩ := h
  exact ⟨hk, State.ctx_putCtx_self _ _ _, hctx, hm, h1.trans hout, h2.trans hfin, h3.trans hpol,
    h4 ▸ htgt, h4 ▸ hkind, h5.trans hmem⟩

/-- R65: an operation's end frees its context, whatever stood there. -/
theorem State.opEnded_putCtx {s : State} {k : SlotId} {o : OpSlot} {c : CtxId} {x y : Context}
    (outcome : Outcome) (h1 : y.request = x.request) (h2 : y.result = x.result) :
    (s.putCtx c (some y)).opEnded k o c y outcome = s.opEnded k o c x outcome := by
  simp [State.opEnded, h1, h2]

/-- R105: a waiting operation ends EXPIRED. -/
theorem expireContext_waiting {s : State} {k : SlotId} {o : OpSlot} {c : CtxId} {x : Context} {b : Binding}
    (h : s.carries k o c x) (waits : ∀ m, o.state ≠ .active m)
    (only : ∀ j p, s.slot j = some p → p.context = c → j = k)
    (hb : (s.entry o.lt).binding = some b) (hd : b.state ≠ .draining) (hp : s.postingOpen)
    (hq : s.noneQueued) (hi : (s.seg o.segment).state ≠ .idle) :
    expireContext c x s = s.opEnded k o c x .expired := by
  have h' := h.putCtx (y := { x with deadlinePassed := some true }) rfl rfl rfl rfl rfl
  rw [expireContext, slotsOf_carries h' only]
  refine (endWaiting_waiting .expired h'.1 waits).trans ?_
  rw [slotEnd_carries h' (by decide) (by decide) hb hd hp hq fun _ => hi]
  exact State.opEnded_putCtx _ rfl rfl

/-- Settles O48: by whether the deadline is reached. -/
theorem deadlinesPass : Obligations.DeadlinesPass := by
  refine fun s => ⟨fun e he law hq hd => ⟨fun reached => ?_, fun before => ?_⟩, fun c x hx hf hd hne =>
    ⟨fun before => ?_, fun reached active => ?_,
      fun k o b reached h waits only hb hs hp hq hi => ?_⟩⟩
  · exact congrArg finish ((expireQueued_of law he hq).trans (if_pos ((deadlineReached_iff hd).2 reached)))
  · exact congrArg finish ((expireQueued_of law he hq).trans
      (if_neg fun c => Nat.not_le.2 before ((deadlineReached_iff hd).1 c)))
  · exact congrArg finish ((passDeadline_of hx hf hd).trans
      (if_neg fun c => Nat.not_le.2 before ((deadlineReached_iff hne).1 c)))
  · exact congrArg finish (((passDeadline_of hx hf hd).trans (if_pos ((deadlineReached_iff hne).2 reached))).trans
      (expireContext_active x active))
  · exact congrArg finish (((passDeadline_of hx hf hd).trans (if_pos ((deadlineReached_iff hne).2 reached))).trans
      (expireContext_waiting h waits only hb hs hp hq hi))

end Sys2Proof.Machine
end

section
/-! The end of a transaction step by step (R88): the lines seen, the target map, the owner, and what is left
on the bus; a bus that becomes free or busy, and the stretch limit (R76, R78), for O50 and O51. -/

namespace Sys2Proof.Machine

/-! ### The lines seen -/

theorem seeLines_eq (i : SegId) (l : Lines) (s : State) : seeLines i l s = s.putSeg i ((s.seg i).sees l) := rfl

@[simp] theorem sees_state (g : Segment) (l : Lines) : (g.sees l).state = g.state := rfl
@[simp] theorem sees_config (g : Segment) (l : Lines) : (g.sees l).config = g.config := rfl
@[simp] theorem sees_pendingList (g : Segment) (l : Lines) : (g.sees l).pendingList = g.pendingList := rfl
@[simp] theorem sees_dueList (g : Segment) (l : Lines) : (g.sees l).dueList = g.dueList := rfl
@[simp] theorem sees_alert (g : Segment) (l : Lines) : (g.sees l).alert = g.alert := rfl
@[simp] theorem sees_alertLow (g : Segment) (l : Lines) : (g.sees l).alertLow = g.alertLow := rfl
@[simp] theorem sees_busFree (g : Segment) (l : Lines) : (g.sees l).busFree = g.busFree := rfl

@[simp] theorem sees_clock (g : Segment) (l : Lines) : (g.sees l).clockLine.high = l.clock := by
  unfold Segment.sees
  dsimp only
  split
  · assumption
  · rfl

@[simp] theorem sees_data (g : Segment) (l : Lines) : (g.sees l).dataLine.high = l.data := by
  unfold Segment.sees
  dsimp only
  split
  · assumption
  · rfl

theorem linesFree_of_high {g : Segment} (h1 : g.clockLine.high = true) (h2 : g.dataLine.high = true) :
    g.linesFree := by
  simp [Segment.linesFree, h1, h2]

/-! ### Stop requests held -/

theorem held_iff (r : StopRequest) : r.held = true ↔ r ≠ ⟨false, false, false⟩ := by
  obtain ⟨a, b, c⟩ := r
  cases a <;> cases b <;> cases c <;> decide

/-- R89: no boundary is passed at which a stop request held takes effect, where none is held or where it is
made no earlier than the boundary before the last byte. -/
theorem keepsToStop_of {c : Current} {t : BusTrace} (h : c.stop = ⟨false, false, false⟩ ∨
    t.atStop ≤ t.bytes.length ∧ t.bytes.length ≤ t.atStop + 1) :
    keepsToStop c t t.bytes.length = true := by
  unfold keepsToStop
  rcases h with h | ⟨h1, h2⟩
  · rw [h]
    rfl
  · have passed : ∀ n ∈ List.range t.bytes.length, n ≤ t.atStop := fun n hn => by
      have := List.mem_range.1 hn
      omega
    have all : ((List.range t.bytes.length).all fun n =>
        decide (n ≤ t.atStop) || letsStopPass c.script (t.bytes.take n)) = true :=
      List.all_eq_true.2 fun n hn => by rw [decide_eq_true (passed n hn), Bool.true_or]
    rw [all, decide_eq_true h1, Bool.and_self, Bool.or_true]

/-! ### What the target map takes (R10, R15, R88 step 1) -/

theorem countOutcome_of {s : State} {lt : LtId} {b : Binding} (hb : (s.entry lt).binding = some b)
    (r : AttemptResult) : countOutcome lt r s =
      s.putEntry lt { s.entry lt with failCount := failCountAfter r (s.entry lt).failCount } := by
  rw [countOutcome, if_pos (by rw [hb]; rfl)]

/-- R11: an outcome isolates an ACTIVE entry with a threshold alone. -/
theorem isolationDue_not {s : State} {lt : LtId} {b : Binding} (hb : (s.entry lt).binding = some b)
    {r : AttemptResult} (h : b.state ≠ .active ∨ b.threshold = 0 ∨ r.outcome.targetFailure = false) :
    isolationDue lt r s = false := by
  rw [isolationDue, hb]
  rcases h with h | h | h
  · simp [h]
  · simp [h]
  · simp [h]

/-- R15: a PROBE that ends DONE reinstates an ISOLATED entry alone. -/
theorem probeReinstates_not {s : State} {lt : LtId} {b : Binding} (hb : (s.entry lt).binding = some b)
    {kind : Kind} {r : AttemptResult} (h : r.outcome ≠ .done ∨ b.state ≠ .isolated) :
    probeReinstates lt kind r s = s := by
  rw [probeReinstates, hb]
  exact if_neg fun c => h.elim (fun d => d c.2.1) fun d => d c.2.2.1

theorem mapTakes_none {c : Current} (h : c.lt = none) (r : AttemptResult) (s : State) :
    mapTakes c r s = s := by
  rw [mapTakes, h]

/-- R10: with no reinstatement the map takes FAIL_COUNT alone. -/
theorem mapTakes_counts {s : State} {c : Current} {lt : LtId} {b : Binding} (h : c.lt = some lt)
    (hb : (s.entry lt).binding = some b) {r : AttemptResult} (hr : r.outcome ≠ .done ∨ b.state ≠ .isolated) :
    mapTakes c r s =
      s.putEntry lt { s.entry lt with failCount := failCountAfter r (s.entry lt).failCount } := by
  rw [mapTakes, h]
  dsimp only
  rw [countOutcome_of hb]
  split
  · exact probeReinstates_not (b := b) (by rw [State.entry_putEntry_self]; exact hb) hr
  · rfl

/-! ### The owner (R88 step 2) -/

theorem ownerTakes_host {c : Current} {k : SlotId} {kind : Kind} (h : c.work = .host k kind)
    (hs : c.stop.reset = false) (i : SegId) (r : AttemptResult) (s : State) :
    ownerTakes i c r s = settleHost k c.stop r s := by
  rw [ownerTakes, hs, h]
  rfl

theorem ownerTakes_alert {c : Current} (h : c.work = .alert) (hs : c.stop.reset = false) (i : SegId)
    (r : AttemptResult) (s : State) : ownerTakes i c r s = takeAlert i r s := by
  rw [ownerTakes, hs, h]
  rfl

/-- R88: a transaction that isolates nothing ends in four steps. -/
theorem endTransaction_undue {c : Current} {r : AttemptResult} {s : State}
    (h : ∀ lt, c.lt = some lt → isolationDue lt r s = false) (i : SegId) : endTransaction i c r s =
      opportunity i (afterTransaction i c r (ownerTakes i c r (mapTakes c r s))) := by
  unfold endTransaction isolateIf
  cases hc : c.lt with
  | none => rfl
  | some lt =>
    dsimp only
    rw [h lt hc]
    rfl

/-! ### What is left on the bus (R88 step 4, R127, R128) -/

/-- The segment at the end of `cur`: IDLE, or DISABLED where a DISABLE is held. -/
def State.leavesBus (u : State) (i : SegId) (cur : Current) (t : State) : Prop :=
  (cur.stop.disable = false → t = u.inState i .idle) ∧
    (cur.stop.disable = true → (u.inState i .idle).disables i t)

theorem afterTransaction_idle {u : State} {i : SegId} {cur : Current} {r : AttemptResult}
    (h : cur.stop.disable = false) (quiet : u.noneQueued)
    (lines : (u.seg i).clockLine.high = true ∧ (u.seg i).dataLine.high = true) :
    afterTransaction i cur r u = u.inState i .idle := by
  rw [afterTransaction, h, if_neg Bool.false_ne_true, if_neg fun c => c.2 lines]
  exact examine_stay quiet rfl

theorem noWork_inState (u : State) (i : SegId) (st : SegState) :
    ((u.inState i st).seg i) = { u.seg i with state := st } := State.seg_putSeg_self _ _ _

theorem State.disables.notIdle {u v : State} {i : SegId} (h : u.disables i v) :
    (v.seg i).state ≠ .idle := by
  obtain ⟨w, -, rfl⟩ := h
  rw [State.seg_putSeg_self]
  exact nofun

/-- R128: the state of the segment before does not matter to its disable. -/
theorem completeDisable_inState (u : State) (i : SegId) (st : SegState) :
    completeDisable i (u.inState i st) = completeDisable i u := by
  unfold completeDisable
  simp [State.inState]

theorem afterTransaction_leavesBus {u : State} {i : SegId} {cur : Current} {r : AttemptResult}
    (quiet : u.noneQueued) (work : (u.seg i).noWork)
    (lines : (u.seg i).clockLine.high = true ∧ (u.seg i).dataLine.high = true) :
    u.leavesBus i cur (opportunity i (afterTransaction i cur r u)) := by
  refine ⟨fun h => ?_, fun h => ?_⟩
  · rw [afterTransaction_idle h quiet lines]
    refine opportunity_noWork ?_ ?_
    · rw [noWork_inState]
      exact linesFree_of_high lines.1 lines.2
    · rw [noWork_inState]
      exact work
  · have disabled : (u.inState i .idle).disables i (completeDisable i u) :=
      completeDisable_inState u i .idle ▸
        completeDisable_disables (by rw [noWork_inState]; exact work.1) quiet
    rw [afterTransaction, if_pos h, opportunity_notIdle disabled.notIdle]
    exact disabled

/-! ### Host attempts (R101, R102, R117) -/

theorem retries_iff (o : OpSlot) (x : Context) (r : AttemptResult) :
    retries o x r.outcome = true ↔ o.mayRetry x r := by
  have kinds (q : Outcome) : q.retryable = true ↔
      (q = .addressNack ∨ q = .arbitrationLost ∨ q = .busBusyTimeout) := by
    cases q <;> simp [Outcome.retryable]
  simp [retries, OpSlot.mayRetry, kinds, and_assoc]

/-- R101, R117: what the end of an attempt asks of its slot. -/
theorem settleHost_of {s : State} {k : SlotId} {o : OpSlot} {x : Context} (hk : s.slot k = some o)
    (hx : s.ctx o.context = some x) (stop : StopRequest) (r : AttemptResult) :
    let o' : OpSlot := { o with lastAcked := r.bytesAcked }
    let t := s.putSlot k (some o')
    (r.outcome = .aborted → settleHost k stop r s = slotEnd k (stoppedOutcome stop) [] t) ∧
    (r.outcome ≠ .aborted → ¬ o.mayRetry x r → settleHost k stop r s = slotEnd k r.outcome r.data t) ∧
    (o.mayRetry x r → x.cancelRequested = true →
      settleHost k stop r s = endWaiting k .cancelled (enterBackoff k o' t)) ∧
    (o.mayRetry x r → x.cancelRequested = false → settleHost k stop r s = enterBackoff k o' t) := by
  have open_ : settleHost k stop r s =
      if r.outcome = .aborted then slotEnd k (stoppedOutcome stop) []
        (s.putSlot k (some { o with lastAcked := r.bytesAcked }))
      else if retries o x r.outcome then
        if x.cancelRequested then endWaiting k .cancelled (enterBackoff k { o with lastAcked := r.bytesAcked }
          (s.putSlot k (some { o with lastAcked := r.bytesAcked })))
        else enterBackoff k { o with lastAcked := r.bytesAcked }
          (s.putSlot k (some { o with lastAcked := r.bytesAcked }))
      else slotEnd k r.outcome r.data (s.putSlot k (some { o with lastAcked := r.bytesAcked })) := by
    rw [settleHost, hk]
    dsimp only
    rw [show (s.putSlot k (some { o with lastAcked := r.bytesAcked })).ctx o.context = some x from hx]
    rfl
  have other (h : o.mayRetry x r) : r.outcome ≠ .aborted := fun c => by
    obtain ⟨h, -⟩ := h
    rw [c] at h
    exact absurd h (by decide)
  refine ⟨fun h => open_.trans (if_pos h), fun h no => open_.trans ((if_neg h).trans
    (if_neg (mt (retries_iff o x r).1 no))), fun h cancel => open_.trans ((if_neg (other h)).trans
    ((if_pos ((retries_iff o x r).2 h)).trans (if_pos cancel))), fun h cancel => open_.trans
    ((if_neg (other h)).trans ((if_pos ((retries_iff o x r).2 h)).trans (if_neg (by rw [cancel]; exact nofun))))⟩

/-- R63, R102: the slot joins the head of its list, its gap begun. -/
theorem enterBackoff_eq (k : SlotId) (o : OpSlot) (s : State) : enterBackoff k o s =
    (s.putSlot k (some { o with
      state := backoffState s.timebase.tick (s.seg o.segment).config.retryGap })).putSeg o.segment
      { s.seg o.segment with pendingList := k :: (s.seg o.segment).pendingList } := rfl

theorem backoffState_gap (now : Word16) {gap : Nat} (h : gap ≠ 0) :
    backoffState now gap = .backoff now (now + BitVec.ofNat 16 gap) := if_neg h

/-- R64, R94: a lone operation in BACKOFF leaves an IDLE segment IDLE. -/
theorem opportunity_backoff {s : State} {i : SegId} {k : SlotId} {o : OpSlot}
    (hl : (s.seg i).pendingList = [k]) (hk : s.slot k = some o) (ho : o.state ≠ .pending)
    (due : (s.seg i).dueList = []) (quiet : ¬ ((s.seg i).config.alertEnable = true ∧
      (s.seg i).alert.suspended = false ∧ (s.seg i).alertLow = true))
    (free : (s.seg i).linesFree) : opportunity i s = s := by
  have none_goes : eligible i s = none := eligible_none fun l1 j l2 hj go => by
    obtain ⟨p, hp, pend, -⟩ := go
    have : j = k := by
      have mem : j ∈ [k] := by rw [← hl, hj]; simp
      exact List.mem_singleton.1 mem
    subst this
    exact ho (by rw [← Option.some.inj (hp.symm.trans hk)]; exact pend)
  by_cases idle : (s.seg i).state = .idle
  · have still := arbitrate_nothing idle free
      (choose_nothing (mt (alertCalled_iff _).1 quiet) due none_goes)
    simp [opportunity, still]
  · exact opportunity_notIdle idle

/-! ### BUS_START_SEEN, BUS_FREE_DETECTED, BUSY_LIMIT_EXPIRY (R76) -/

theorem busFreed_idle {s : State} {i : SegId} (h : (s.seg i).state = .idle) : busFreed i s =
    s.putSeg i { (s.seg i).sees ⟨true, true⟩ with busFree := true } := by
  rw [busFreed, State.segState, h]
  simp [putBusFree, seeLines_eq, Lines.free]

/-- R76: a start condition on a bus seen free is the data line's fall. -/
theorem sees_start (g : Segment) : (g.sees ⟨true, true⟩).sees ⟨true, false⟩ =
    { g.sees ⟨true, true⟩ with dataLine := ⟨false, 0⟩ } := by
  have clock := sees_clock g ⟨true, true⟩
  have data := sees_data g ⟨true, true⟩
  generalize g.sees ⟨true, true⟩ = f at clock data
  simp [Segment.sees, clock, data]

theorem busFreed_waits {s : State} {i : SegId} {c : Current} (h : (s.seg i).state = .busy c)
    (hc : c.phase = .waitFree) : busFreed i s =
      s.putSeg i { ((s.seg i).sees ⟨true, true⟩).sees ⟨true, false⟩ with
        busFree := false, state := .busy { c with phase := .transfer } } := by
  rw [busFreed, State.segState, h]
  dsimp only
  rw [hc]
  rw [sees_start]
  simp [putBusFree, seeLines_eq, Lines.free, seeStart, State.putSegState, Line.seen, Line.fallen]

/-- R101, R102: an attempt whose bus stays busy goes to BACKOFF. -/
theorem busyLimit_host {s : State} {i : SegId} {k : SlotId} {o : OpSlot} {c : CtxId} {x : Context}
    {script : List BusItem} {b : Binding}
    (h : (s.seg i).state =
      .busy ⟨.host k o.kind, some o.lt, script, .waitFree, ⟨false, false, false⟩⟩)
    (hc : s.carries k o c x) (hi : o.segment = i) (uncancelled : x.cancelRequested = false)
    (open_ : x.deadlinePassed ≠ some true) (budget : o.attempts ≤ x.request.retryBudget)
    (gap : (s.seg i).config.retryGap ≠ 0) (hb : (s.entry o.lt).binding = some b) (quiet : s.noneQueued)
    (work : (s.seg i).noWork) (free : (s.seg i).linesFree) : busyLimit i s =
      (s.putSlot k (some { o with
        state := .backoff s.timebase.tick (s.timebase.tick + BitVec.ofNat 16 (s.seg i).config.retryGap)
        lastAcked := 0 })).putSeg i { s.seg i with state := .idle, pendingList := [k] } := by
  obtain ⟨hk, hx, rfl, -⟩ := hc
  have same : failCountAfter (nothingDriven .busBusyTimeout) (s.entry o.lt).failCount =
      (s.entry o.lt).failCount := rfl
  obtain ⟨-, -, -, goes⟩ := settleHost_of hk hx ⟨false, false, false⟩ (nothingDriven .busBusyTimeout)
  have settled := goes ⟨.inr (.inr rfl), budget, open_⟩ uncancelled
  rw [busyLimit, State.segState, h]
  dsimp only
  rw [endTransaction_undue (fun lt hl => by cases hl; exact isolationDue_not hb (.inr (.inr rfl))),
    mapTakes_counts (lt := o.lt) rfl hb (.inl (by decide)), same]
  have entry : s.putEntry o.lt { s.entry o.lt with failCount := (s.entry o.lt).failCount } = s :=
    State.putEntry_entry s o.lt
  rw [entry, ownerTakes_host (k := k) (kind := o.kind) rfl rfl, settled, enterBackoff_eq, afterTransaction]
  rw [if_neg Bool.false_ne_true, if_neg (by simp [nothingDriven]), examine_stay quiet (by rfl)]
  have eq : ((((s.putSlot k (some { o with lastAcked := (nothingDriven .busBusyTimeout).bytesAcked })).putSlot k
      (some { o with
        lastAcked := (nothingDriven .busBusyTimeout).bytesAcked
        state := backoffState s.timebase.tick (s.seg o.segment).config.retryGap })).putSeg o.segment
      { s.seg o.segment with pendingList := k :: (s.seg o.segment).pendingList }).putSegState i .idle) =
      (s.putSlot k (some { o with
        state := .backoff s.timebase.tick (s.timebase.tick + BitVec.ofNat 16 (s.seg i).config.retryGap)
        lastAcked := 0 })).putSeg i { s.seg i with state := .idle, pendingList := [k] } := by
    subst hi
    simp [State.putSegState, work.1, backoffState_gap _ gap, nothingDriven]
  refine (congrArg (opportunity i) eq).trans (opportunity_backoff (k := k) ?_ (State.slot_putSlot_self _ _ _) ?_ ?_ ?_ ?_)
  · simp
  · exact nofun
  · simpa using work.2.1
  · simpa using work.2.2
  · simpa [Segment.linesFree] using free

/-- Settles O50: what each event finds on the bus. -/
theorem waitForTheBus : Obligations.WaitForTheBus := by
  refine ⟨fun s i => ⟨?_, fun idle => congrArg finish (busFreed_idle idle), fun c h hc =>
    congrArg finish (busFreed_waits h hc)⟩, fun s i k o c x script b h hc hi un op bud gap hb quiet work free =>
      congrArg finish (busyLimit_host h hc hi un op bud gap hb quiet work free)⟩
  refine congrArg finish ?_
  simp [putBusFree, seeStart, Segment.sees, Line.seen, Line.fallen]

/-! ### STRETCH_LIMIT_EXPIRY (R78) -/

/-- R78: a stretch that reaches its limit with the clock line high: the stop is to be made. -/
theorem stretchLimit_high {s : State} {i : SegId} {c : Current} {t : BusTrace} {p : Progress}
    (h : (s.seg i).state = .busy c) (hc : c.phase = .transfer) (keeps : keepsToStop c t t.bytes.length = true)
    (hp : stretchProgress c t.bytes = some p) (data : Bool) : stretchLimit i t ⟨true, data⟩ s =
      s.putSeg i { (s.seg i).sees ⟨true, data⟩ with
        state := .busy { c with phase := .stopping ⟨.stretchTimeout, p.bytesAcked, p.addrAcked, []⟩ } } := by
  rw [stretchLimit, State.segState, h]
  dsimp only
  rw [hc, hp]
  dsimp only
  rw [if_pos keeps]
  simp [stretchEnds, seeLines_eq, State.putSegState, Progress.failed]

/-- R79: after a loss of the bus the engine drives no clock. -/
theorem stretchLimit_absent {s : State} {i : SegId} {c : Current} {t : BusTrace}
    (h : (s.seg i).state = .busy c) (hp : stretchProgress c t.bytes = none) (l : Lines) :
    stretchLimit i t l s = s := by
  rw [stretchLimit, State.segState, h]
  dsimp only
  rw [hp]
  split
  · next e => exact absurd e nofun
  · rfl

theorem stretchLimit_low {s : State} {i : SegId} {c : Current} {t : BusTrace} {p : Progress}
    (h : (s.seg i).state = .busy c) (hc : c.phase = .transfer) (keeps : keepsToStop c t t.bytes.length = true)
    (hp : stretchProgress c t.bytes = some p) (data : Bool) : stretchLimit i t ⟨false, data⟩ s =
      endTransaction i c (p.failed .stretchTimeout) (s.putSeg i ((s.seg i).sees ⟨false, data⟩)) := by
  rw [stretchLimit, State.segState, h]
  dsimp only
  rw [hc, hp]
  dsimp only
  rw [if_pos keeps]
  rfl

/-- TABLE 66: a query missed, short of the limit. -/
theorem takeAlert_missed {s : State} {i : SegId} {r : AttemptResult} (h1 : r.outcome ≠ .done)
    (h2 : r.outcome ≠ .aborted) (h3 : r.outcome ≠ .addressNack) (few : (s.seg i).alert.nackCount < 2) :
    takeAlert i r s = s.putSeg i { s.seg i with
      alert := { (s.seg i).alert with nackCount := (s.seg i).alert.nackCount + 1 } } := by
  have least : min ((s.seg i).alert.nackCount + 1) 3 = (s.seg i).alert.nackCount + 1 := by omega
  have short : (s.seg i).alert.nackCount + 1 ≠ 3 := by omega
  rw [takeAlert, if_neg h1, if_neg h2, alertMissed]
  simp [alertAfterMiss, h3, Config.alertNackLimit, least, short, putAlert]

/-- R120, R169: an alert query whose clock line stays low. -/
theorem stretchLimit_query {s : State} {i : SegId} {c : Current} {t : BusTrace} {p : Progress}
    (h : (s.seg i).state = .busy c) (hc : c.phase = .transfer) (stop : c.stop = ⟨false, false, false⟩)
    (hp : stretchProgress c t.bytes = some p) (hw : c.work = .alert) (hl : c.lt = none)
    (few : (s.seg i).alert.nackCount < 2) (quiet : s.noneQueued) (data : Bool) :
    stretchLimit i t ⟨false, data⟩ s = s.putSeg i { (s.seg i).sees ⟨false, data⟩ with
      state := .recovering ⟨0, .stretch, none⟩, busFree := false
      alert := { (s.seg i).alert with nackCount := (s.seg i).alert.nackCount + 1 } } := by
  rw [stretchLimit_low h hc (keepsToStop_of (.inl stop)) hp, endTransaction_undue (fun lt e => by
    rw [hl] at e; cases e), mapTakes_none hl, ownerTakes_alert hw (by rw [stop]),
    takeAlert_missed (by simp [Progress.failed]) (by simp [Progress.failed]) (by simp [Progress.failed]) (by rw [State.seg_putSeg_self]; exact few), afterTransaction, stop,
    if_neg Bool.false_ne_true, if_pos ⟨rfl, by simp⟩, examine_stay quiet (by rfl),
    opportunity_notIdle (by simp [enterRecovering])]
  simp [enterRecovering]

theorem stretchProgress_running {c : Current} {bytes : List BusByte} {p : Progress} {rest : List BusItem}
    {w : Standing} (h : verdict c.script bytes = .running p rest w) : stretchProgress c bytes = some p := by
  rw [stretchProgress, h]

/-- Settles O51: by what the bytes have gathered. -/
theorem stretchLimitEnds : Obligations.StretchLimitEnds := by
  intro s i c t data h hc hs
  have keeps := keepsToStop_of hs
  refine ⟨fun p rest w hv => ?_, fun p hv held => ?_, fun r hv kept => ?_, fun r l hv lost => ?_,
    fun p rest w hv hw hl stop few quiet => ?_⟩
  · exact congrArg finish (stretchLimit_high h hc keeps (stretchProgress_running hv) data)
  · have hp : stretchProgress c t.bytes = some p := by
      rw [stretchProgress, hv]
      exact if_pos ((held_iff _).2 held)
    exact congrArg finish (stretchLimit_high h hc keeps hp data)
  · have hp : stretchProgress c t.bytes = some ⟨r.bytesAcked, r.addrAcked, r.data⟩ := by
      rw [stretchProgress, hv]
      exact if_neg kept
    exact congrArg finish (stretchLimit_high h hc keeps hp data)
  · have hp : stretchProgress c t.bytes = none := by
      rw [stretchProgress, hv]
      exact if_pos lost
    exact congrArg finish (stretchLimit_absent h hp l)
  · exact congrArg finish (stretchLimit_query h hc stop (stretchProgress_running hv) hw hl few quiet data)

end Sys2Proof.Machine
end

section
/-! The end of a host attempt of a single-target request (R65, R88, R101, R117, R132, R137), for O52, O53
and O55. -/

namespace Sys2Proof.Machine

/-! ### A record that joins leaves the tables alone -/

@[simp] theorem State.seg_withRecord (s : State) (r : CompletionRecord) (i : SegId) :
    (s.withRecord r).seg i = s.seg i := rfl
@[simp] theorem State.slot_withRecord (s : State) (r : CompletionRecord) (k : SlotId) :
    (s.withRecord r).slot k = s.slot k := rfl
@[simp] theorem State.entry_withRecord (s : State) (r : CompletionRecord) (lt : LtId) :
    (s.withRecord r).entry lt = s.entry lt := rfl
@[simp] theorem State.sv_withRecord (s : State) (r : CompletionRecord) (n : SvId) :
    (s.withRecord r).sv n = s.sv n := rfl

/-! ### The end of the slot and its record -/

/-- R104: the slot of an attempt that ends notes the bytes acknowledged. -/
theorem State.carries.acked {s : State} {k : SlotId} {o : OpSlot} {c : CtxId} {x : Context}
    (h : s.carries k o c x) (n : Nat) : (s.putSlot k (some { o with lastAcked := n })).carries k
      { o with lastAcked := n } c x := by
  obtain ⟨-, hx, rest⟩ := h
  exact ⟨State.slot_putSlot_self _ _ _, hx, rest⟩

/-- R56, R132, R137: the record of a single-target request whose operation ends. -/
theorem contextRecord_single {s : State} {k : SlotId} {o : OpSlot} {c : CtxId} {x : Context}
    (h : s.carries k o c x) (outcome : Outcome) (data : List Byte) (time : Word16) :
    contextRecord (afterSlotEnd x o outcome data) ⟨contextStatus (afterSlotEnd x o outcome data), time,
        contextBytesAcked (afterSlotEnd x o outcome data)⟩ =
      { tag := x.request.tag, status := singleStatus outcome x.cancelRequested, kind := o.kind
        target := .lt o.lt, attempts := o.attempts, finishTime := time
        result := if takesResult x.request outcome then some data else x.result
        bytesAcked := if o.kind = .write ∨ o.kind = .writeRead then some o.lastAcked else none
        successSet := none, failSet := none } := by
  obtain ⟨-, -, -, hm, -, -, hpol, htgt, hrk, hmem⟩ := h
  have status : contextStatus (afterSlotEnd x o outcome data) = singleStatus outcome x.cancelRequested := by
    simp [contextStatus, afterSlotEnd, hpol, hmem, completeMember, hm]
  have acked : contextBytesAcked (afterSlotEnd x o outcome data) =
      if o.kind = .write ∨ o.kind = .writeRead then some o.lastAcked else none := by
    simp [contextBytesAcked, afterSlotEnd, hrk, Request.isGroup, htgt, hmem, completeMember, hm]
  rw [status, acked]
  simp [contextRecord, afterSlotEnd, Request.isGroup, htgt, hrk, hmem, completeMember, hm, largest]

/-- R65, R68: the only open slot of a context ends, unlisted: `u` is the state with the slot FREE and its
reference released. -/
theorem slotEnd_frees {s u : State} {k : SlotId} {o : OpSlot} {x : Context} (outcome : Outcome)
    (data : List Byte) (hk : s.slot k = some o) (hl : (s.seg o.segment).pendingList = [])
    (hu : releaseRef o.lt (s.putSlot k none) = u) (hx : u.ctx o.context = some x) (one : x.outstanding = 1)
    (hp : u.postingOpen) (quiet : u.noneQueued) : slotEnd k outcome data s =
      (u.putCtx o.context none).withRecord (contextRecord (afterSlotEnd x o outcome data)
        ⟨contextStatus (afterSlotEnd x o outcome data), u.timebase.time,
          contextBytesAcked (afterSlotEnd x o outcome data)⟩) := by
  unfold slotEnd
  rw [hk]
  dsimp only
  rw [leavePending_nil hl, hu, hl, if_neg List.not_mem_nil, accountSlotEnd, hx]
  dsimp only
  rw [if_pos (by simp [afterSlotEnd, one]), finishContext_open _ _ hp]
  exact examine_stay quiet rfl

/-- R65, R132, R135: an attempt ends with its operation. -/
theorem slotEnd_attempt {s : State} {k : SlotId} {o : OpSlot} {c : CtxId} {x : Context} {b : Binding}
    (h : s.carries k o c x) (hb : (s.entry o.lt).binding = some b) (hd : b.state ≠ .draining)
    (hp : s.postingOpen) (quiet : s.noneQueued) (hl : (s.seg o.segment).pendingList = [])
    (outcome : Outcome) (data : List Byte) (n : Nat) :
    slotEnd k outcome data (s.putSlot k (some { o with lastAcked := n })) =
      s.attemptEnded k o c x { s.entry o.lt with refCount := (s.entry o.lt).refCount - 1 }
        (singleStatus outcome x.cancelRequested)
        (if takesResult x.request outcome then some data else x.result) n := by
  have h' := h.acked n
  obtain ⟨-, hx, hc, -, one, -⟩ := h
  rw [slotEnd_frees outcome data h'.1 hl (releaseRef_plain (b := b) hb hd) (by rw [hc]; exact hx) one hp quiet,
    contextRecord_single h']
  simp [State.attemptEnded, hc]

/-! ### What the owner of a host attempt takes (R101, R102, R117) -/

/-- R132: a stopped attempt ends CANCELLED where a CANCEL is held, and SEGMENT_DISABLED otherwise. -/
theorem singleStatus_stopped {stop : StopRequest} {cancel : Bool} (hc : stop.cancel = true → cancel = true) :
    singleStatus (stoppedOutcome stop) cancel = .of (if stop.cancel then .cancelled else .segmentDisabled) := by
  cases h : stop.cancel
  · simp [stoppedOutcome, h, singleStatus]
  · simp [stoppedOutcome, h, singleStatus, hc h]

/-- R132: an outcome that is neither DONE nor ABORTED is the STATUS. -/
theorem singleStatus_own {r : Outcome} (h1 : r ≠ .done) (h2 : r ≠ .aborted) (cancel : Bool) :
    singleStatus r cancel = .of r := by
  by_cases h : r = .cancelled <;> simp [singleStatus, h1, h2, h]

/-- R56: read data is a result of a READ, WRITE_READ or BLOCK_READ that ends DONE. -/
theorem takesResult_single {s : State} {k : SlotId} {o : OpSlot} {c : CtxId} {x : Context}
    (h : s.carries k o c x) (r : Outcome) : takesResult x.request r = true ↔
      r = .done ∧ (o.kind = .read ∨ o.kind = .writeRead ∨ o.kind = .blockRead) := by
  obtain ⟨-, -, -, -, -, -, -, htgt, hrk, -⟩ := h
  simp [takesResult, Request.isGroup, htgt, hrk, or_assoc]

section
variable {s : State} {k : SlotId} {o : OpSlot} {c : CtxId} {x : Context} {b : Binding}

/-- The entry of an operation's target with the operation's reference released. -/
def State.unreferenced (s : State) (lt : LtId) : MapEntry :=
  { s.entry lt with refCount := (s.entry lt).refCount - 1 }

theorem settleHost_aborted (h : s.carries k o c x) (hb : (s.entry o.lt).binding = some b)
    (hd : b.state ≠ .draining) (hp : s.postingOpen) (quiet : s.noneQueued)
    (hl : (s.seg o.segment).pendingList = []) {stop : StopRequest} (hc : stop.cancel = true → x.cancelRequested = true)
    {r : AttemptResult} (hr : r.outcome = .aborted) : settleHost k stop r s =
      s.attemptEnded k o c x (s.unreferenced o.lt) (.of (if stop.cancel then .cancelled else .segmentDisabled))
        x.result r.bytesAcked := by
  obtain ⟨stopped, -⟩ := settleHost_of h.1 (by rw [h.2.2.1]; exact h.2.1) stop r
  have no_data : ¬ takesResult x.request (stoppedOutcome stop) = true := by
    rw [takesResult_single h]
    unfold stoppedOutcome
    split <;> exact fun c => nomatch c.1
  rw [stopped hr, slotEnd_attempt h hb hd hp quiet hl, singleStatus_stopped hc, if_neg no_data]
  rfl

theorem settleHost_done (h : s.carries k o c x) (hb : (s.entry o.lt).binding = some b)
    (hd : b.state ≠ .draining) (hp : s.postingOpen) (quiet : s.noneQueued)
    (hl : (s.seg o.segment).pendingList = []) (stop : StopRequest) {r : AttemptResult}
    (hr : r.outcome = .done) : settleHost k stop r s =
      s.attemptEnded k o c x (s.unreferenced o.lt) .ok
        (if o.kind = .read ∨ o.kind = .writeRead ∨ o.kind = .blockRead then some r.data else x.result)
        r.bytesAcked := by
  obtain ⟨-, own, -⟩ := settleHost_of h.1 (by rw [h.2.2.1]; exact h.2.1) stop r
  have final : ¬ o.mayRetry x r := fun m => by
    have := m.1
    rw [hr] at this
    exact absurd this (by decide)
  have data : (if takesResult x.request .done then some r.data else x.result) =
      if o.kind = .read ∨ o.kind = .writeRead ∨ o.kind = .blockRead then some r.data else x.result :=
    if_congr ((takesResult_single h _).trans (and_iff_right rfl)) rfl rfl
  rw [own (by rw [hr]; decide) final, slotEnd_attempt h hb hd hp quiet hl, hr, data]
  rfl

theorem settleHost_final (h : s.carries k o c x) (hb : (s.entry o.lt).binding = some b)
    (hd : b.state ≠ .draining) (hp : s.postingOpen) (quiet : s.noneQueued)
    (hl : (s.seg o.segment).pendingList = []) (stop : StopRequest) {r : AttemptResult}
    (h1 : r.outcome ≠ .done) (h2 : r.outcome ≠ .aborted) (final : ¬ o.mayRetry x r) :
    settleHost k stop r s =
      s.attemptEnded k o c x (s.unreferenced o.lt) (.of r.outcome) x.result r.bytesAcked := by
  obtain ⟨-, own, -⟩ := settleHost_of h.1 (by rw [h.2.2.1]; exact h.2.1) stop r
  have no_data : ¬ takesResult x.request r.outcome = true := fun d =>
    h1 ((takesResult_single h _).1 d).1
  rw [own h2 final, slotEnd_attempt h hb hd hp quiet hl, singleStatus_own h1 h2, if_neg no_data]
  rfl

/-- R102: the slot in BACKOFF, alone on its list. -/
def State.backsOff (s : State) (k : SlotId) (o : OpSlot) (n : Nat) : State :=
  enterBackoff k { o with lastAcked := n } (s.putSlot k (some { o with lastAcked := n }))

theorem backsOff_carries (h : s.carries k o c x) (n : Nat) :
    (s.backsOff k o n).carries k { o with
      state := backoffState s.timebase.tick (s.seg o.segment).config.retryGap
      lastAcked := n } c x := by
  obtain ⟨-, hx, rest⟩ := h
  exact ⟨State.slot_putSlot_self _ _ _, hx, rest⟩

theorem backoffState_waits (now : Word16) (gap : Nat) (m : Bool) : backoffState now gap ≠ .active m := by
  unfold backoffState
  split <;> exact nofun

theorem backsOff_seg (s : State) (k : SlotId) (o : OpSlot) (n : Nat) :
    (s.backsOff k o n).seg o.segment =
      { s.seg o.segment with pendingList := k :: (s.seg o.segment).pendingList } := State.seg_putSeg_self _ _ _

/-- An unlisted operation that ends in BACKOFF leaves no trace of it. -/
theorem backsOff_opEnded (s : State) (k : SlotId) (o : OpSlot) (c : CtxId) (x : Context)
    (hl : (s.seg o.segment).pendingList = []) (n : Nat) (outcome : Outcome) :
    (s.backsOff k o n).opEnded k { o with
      state := backoffState s.timebase.tick (s.seg o.segment).config.retryGap
      lastAcked := n } c x outcome =
    s.attemptEnded k o c x (s.unreferenced o.lt) (.of outcome) x.result n := by
  have same : { s.seg o.segment with pendingList := [] } = s.seg o.segment := by
    rw [← hl]
  simp [State.opEnded, State.attemptEnded, State.unreferenced, State.backsOff, enterBackoff_eq, hl, same]
  exact congrArg (State.withRecord · _) (State.putSeg_seg _ _)

theorem settleHost_cancelled (h : s.carries k o c x) (hb : (s.entry o.lt).binding = some b)
    (hd : b.state ≠ .draining) (hp : s.postingOpen) (quiet : s.noneQueued)
    (hl : (s.seg o.segment).pendingList = []) (hi : (s.seg o.segment).state ≠ .idle) (stop : StopRequest)
    {r : AttemptResult} (retry : o.mayRetry x r) (hc : x.cancelRequested = true) : settleHost k stop r s =
      s.attemptEnded k o c x (s.unreferenced o.lt) (.of .cancelled) x.result r.bytesAcked := by
  obtain ⟨-, -, cancel, -⟩ := settleHost_of h.1 (by rw [h.2.2.1]; exact h.2.1) stop r
  have h' := backsOff_carries h r.bytesAcked
  refine (cancel retry hc).trans ((endWaiting_waiting .cancelled h'.1 (backoffState_waits _ _)).trans ?_)
  exact (slotEnd_carries (s := s.backsOff k o r.bytesAcked) h' (by decide) (by decide) hb hd hp quiet fun _ => by
    rw [backsOff_seg]; exact hi).trans (backsOff_opEnded s k o c x hl _ _)

theorem settleHost_backsOff (h : s.carries k o c x) (stop : StopRequest) {r : AttemptResult}
    (retry : o.mayRetry x r) (hc : x.cancelRequested = false) :
    settleHost k stop r s = s.backsOff k o r.bytesAcked := by
  obtain ⟨-, -, -, goes⟩ := settleHost_of h.1 (by rw [h.2.2.1]; exact h.2.1) stop r
  exact goes retry hc

/-- R128 step 2: the one operation listed ends with the disable. -/
theorem completeDisable_one (h : s.carries k o c x) (waits : ∀ m, o.state ≠ .active m)
    (hb : (s.entry o.lt).binding = some b) (hd : b.state ≠ .draining) (hp : s.postingOpen)
    (quiet : s.noneQueued) (hl : (s.seg o.segment).pendingList = [k]) :
    completeDisable o.segment s = completeDisable o.segment (s.opEnded k o c x .segmentDisabled) := by
  obtain ⟨g, hg⟩ : ∃ g : Segment, g = { s.seg o.segment with
    state := .disabled, consecHost := 0, busFree := false } := ⟨_, rfl⟩
  have on : (s.putSeg o.segment g).seg o.segment = g := State.seg_putSeg_self _ _ _
  have notIdle : ((s.putSeg o.segment g).seg o.segment).state ≠ .idle := by
    rw [on, hg]
    exact nofun
  have listed : g.pendingList = [k] := by rw [hg]; exact hl
  have ends : endEach .segmentDisabled [k] (s.putSeg o.segment g) =
      (s.putSeg o.segment g).opEnded k o c x .segmentDisabled :=
    (endWaiting_waiting (s := s.putSeg o.segment g) _ h.1 waits).trans
      (slotEnd_carries (s := s.putSeg o.segment g) h (by decide) (by decide) hb hd hp quiet fun _ => notIdle)
  have off : ((s.opEnded k o c x .segmentDisabled).seg o.segment) =
      { s.seg o.segment with pendingList := [] } := by
    simp [State.opEnded, hl]
  have put : (s.putSeg o.segment g).opEnded k o c x .segmentDisabled =
      (s.opEnded k o c x .segmentDisabled).putSeg o.segment { g with pendingList := [] } := by
    simp [State.opEnded, listed]
  unfold completeDisable
  simp only [← hg, on, listed, ends, off, put, State.seg_putSeg_self]
  rw [hg]
  rfl

end

end Sys2Proof.Machine
end

section
/-! Stops at a byte boundary, and the end of host attempts of single-target requests (R88 to R91, R101,
R102, R117, R128), for O52 and O53. -/

namespace Sys2Proof.Machine

/-! ### What the bytes do -/

theorem endAt_ended {v : Verdict} {left : List BusByte} {r : AttemptResult} (h : endAt v left = .ended r) :
    v = .ended r := by
  unfold endAt at h
  split at h
  · exact h
  · exact nomatch h

/-- R77 to R86: no bytes end a transaction ABORTED: those that end it name its outcome, the others end
nothing or go on. -/
theorem runBytes_notAborted (items : List BusItem) (bs : List BusByte) (p : Progress) (w : Standing) :
    ∀ r, runBytes items bs p w = .ended r → r.outcome ≠ .aborted := by
  fun_induction runBytes items bs p w with
  | case1 | case4 | case5 | case8 | case9 | case12 | case13 | case22 =>
    intro r h
    cases endAt_ended h
    exact nofun
  | case2 | case6 | case10 | case14 | case17 | case18 | case21 | case23 => exact fun r h => nomatch h
  | case16 | case20 => exact fun r h => nomatch endAt_ended h
  | case3 | case7 | case11 | case15 | case19 => assumption

/-! ### What is left of the segment -/

/-- The segment as the end of a transaction with result `r` sees it, both lines high: a lost bus is not
free (R79). -/
def Segment.endsWith (g : Segment) (r : AttemptResult) : Segment :=
  { g.sees ⟨true, true⟩ with busFree := if r.outcome = .arbitrationLost then false else g.busFree }

theorem endsWith_kept {g : Segment} {r : AttemptResult} (h : r.outcome ≠ .arbitrationLost) :
    g.endsWith r = g.sees ⟨true, true⟩ := by
  rw [Segment.endsWith, if_neg h]
  rfl

@[simp] theorem endsWith_clock (g : Segment) (r : AttemptResult) :
    (g.endsWith r).clockLine.high = true := sees_clock g ⟨true, true⟩
@[simp] theorem endsWith_data (g : Segment) (r : AttemptResult) :
    (g.endsWith r).dataLine.high = true := sees_data g ⟨true, true⟩

theorem endsWith_noWork {g : Segment} (h : g.noWork) (r : AttemptResult) : (g.endsWith r).noWork := h

/-- R88: an attempt that ends with its own outcome. -/
theorem transactionEnds_own {s : State} {i : SegId} {cur : Current} {t : BusTrace} {r : AttemptResult}
    (h : (s.seg i).state = .busy cur) (hr : cur.endsOwn t r) : transactionEnds i t ⟨true, true⟩ s =
      endTransaction i cur r (s.putSeg i ((s.seg i).endsWith r)) ∧ r.outcome ≠ .aborted := by
  rw [transactionEnds, State.segState, h]
  dsimp only
  rcases hr with ⟨phase, ended, stop⟩ | ⟨phase, stretch⟩
  · refine ⟨?_, runBytes_notAborted _ _ _ _ r ended⟩
    rw [phase, ended]
    dsimp only
    rw [if_pos (keepsToStop_of stop), seeLines_eq, afterLoss]
    by_cases lost : r.outcome = .arbitrationLost
    · rw [if_pos lost, putBusFree, Segment.endsWith, if_pos lost]
      simp
    · rw [if_neg lost, endsWith_kept lost]
  · rw [phase]
    exact ⟨by rw [seeLines_eq, endsWith_kept (by rw [stretch]; decide)], by rw [stretch]; decide⟩

/-- R89, R90: a stop request takes effect: the transaction ends ABORTED. -/
theorem stopAtBoundary_stopsAt {s : State} {i : SegId} {cur : Current} {t : BusTrace} {p : Progress}
    (h : (s.seg i).state = .busy cur) (hs : cur.stopsAt t p) : stopAtBoundary i t s =
      endTransaction i cur (p.failed .aborted) (s.putSeg i ((s.seg i).endsWith (p.failed .aborted))) := by
  obtain ⟨phase, held, some_byte, after, before, reached⟩ := hs
  have result : boundaryResult cur.script t.bytes = some (p.failed .aborted) := by
    rw [boundaryResult, if_neg (by simpa using some_byte)]
    rcases reached with ⟨rest, e⟩ | e <;> rw [e]
  rw [stopAtBoundary, State.segState, h]
  dsimp only
  rw [phase, result]
  dsimp only
  rw [if_pos ⟨(held_iff _).2 held, keepsToStop_of (.inr ⟨after, before⟩)⟩, seeLines_eq,
    endsWith_kept (by simp [Progress.failed])]
  rfl

/-- R88: the parts of an end that isolates nothing, put together: `u` is what the owner leaves. -/
theorem endTransaction_leavesBus {s u : State} {i : SegId} {cur : Current} {r : AttemptResult} {g : Segment}
    (undue : ∀ lt, cur.lt = some lt → isolationDue lt r s = false)
    (taken : ownerTakes i cur r (mapTakes cur r s) = u.putSeg i g) (quiet : u.noneQueued) (work : g.noWork)
    (lines : g.clockLine.high = true ∧ g.dataLine.high = true) :
    (cur.stop.disable = false → finish (endTransaction i cur r s) =
        finish (u.putSeg i { g with state := .idle })) ∧
      (cur.stop.disable = true → ∃ v, (u.putSeg i { g with state := .idle }).disables i v ∧
        finish (endTransaction i cur r s) = finish v) := by
  have on : (u.putSeg i g).seg i = g := State.seg_putSeg_self _ _ _
  have idle : (u.putSeg i g).inState i .idle = u.putSeg i { g with state := .idle } := by
    simp [State.inState]
  obtain ⟨kept, disabled⟩ := afterTransaction_leavesBus (u := u.putSeg i g) (i := i) (cur := cur) (r := r)
    quiet (by rw [on]; exact work) (by rw [on]; exact lines)
  rw [endTransaction_undue undue, taken, ← idle]
  exact ⟨fun h => congrArg finish (kept h), fun h => ⟨_, disabled h, rfl⟩⟩

/-! ### Where the writes of an attempt's end go -/

theorem attemptEnded_seen (s : State) (i : SegId) (g : Segment) (k : SlotId) (o : OpSlot) (c : CtxId)
    (x : Context) (e e' : MapEntry) (st : Status) (res : Option (List Byte)) (n : Nat) :
    ((s.putSeg i g).putEntry o.lt e).attemptEnded k o c x e' st res n =
      (s.attemptEnded k o c x e' st res n).putSeg i g := by
  simp [State.attemptEnded]

/-- R10: the map entry of `lt` after a transaction with result `r`. -/
def State.counted (s : State) (lt : LtId) (r : AttemptResult) : MapEntry :=
  { s.entry lt with failCount := failCountAfter r (s.entry lt).failCount }

theorem countOutcome_entry {s : State} {lt : LtId} {b : Binding} (hb : (s.entry lt).binding = some b)
    (r : AttemptResult) : (countOutcome lt r s).entry lt = s.counted lt r := by
  rw [countOutcome_of hb, State.entry_putEntry_self]
  rfl

/-- R10, R76: what the owner of a transaction finds: the segment seen, and the outcome counted. -/
def State.mapTaken (s : State) (i : SegId) (lt : LtId) (r : AttemptResult) : State :=
  (s.putSeg i ((s.seg i).endsWith r)).putEntry lt (s.counted lt r)

theorem mapTakes_taken {s : State} {i : SegId} {cur : Current} {lt : LtId} {b : Binding} {r : AttemptResult}
    (h : cur.lt = some lt) (hb : (s.entry lt).binding = some b)
    (hr : r.outcome ≠ .done ∨ b.state ≠ .isolated) :
    mapTakes cur r (s.putSeg i ((s.seg i).endsWith r)) = s.mapTaken i lt r :=
  mapTakes_counts (s := s.putSeg i ((s.seg i).endsWith r)) h hb hr

section
variable {s : State} {i : SegId} {lt : LtId} {r : AttemptResult}

@[simp] theorem mapTaken_entry : (s.mapTaken i lt r).entry lt = s.counted lt r :=
  State.entry_putEntry_self _ _ _

@[simp] theorem mapTaken_seg : (s.mapTaken i lt r).seg i = (s.seg i).endsWith r := State.seg_putSeg_self _ _ _

end

/-- R88: the operation's end as the owner of the transaction makes it, from where the map has taken the
outcome. -/
theorem attemptEnded_taken {s : State} {i : SegId} (k : SlotId) (o : OpSlot) (c : CtxId) (x : Context)
    (r : AttemptResult) (st : Status) (res : Option (List Byte)) :
    (s.mapTaken i o.lt r).attemptEnded k o c x ((s.mapTaken i o.lt r).unreferenced o.lt) st res r.bytesAcked =
      (s.attemptEnded k o c x { s.counted o.lt r with refCount := (s.entry o.lt).refCount - 1 } st res
        r.bytesAcked).putSeg i ((s.seg i).endsWith r) := by
  rw [State.unreferenced, mapTaken_entry, State.mapTaken, attemptEnded_seen]
  rfl

section
variable {s : State} {i : SegId} {cur : Current} {r : AttemptResult} {k : SlotId} {o : OpSlot} {c : CtxId}
  {x : Context} {b : Binding}

/-- What the statements on host attempts say of the end of transaction `cur` of segment `i`, which is `f`:
the segment is IDLE, or DISABLED where a DISABLE is held. -/
def State.endsIn (w : State) (i : SegId) (cur : Current) (f : Host.Outcome State Fault Refusal) : Prop :=
  (cur.stop.disable = false → f = finish w) ∧
    (cur.stop.disable = true → ∃ v, w.disables i v ∧ f = finish v)

/-- R88: a host attempt whose slot ends with it. -/
theorem hostEnds {status : Status} {res : Option (List Byte)} (hw : cur.work = .host k o.kind)
    (hlt : cur.lt = some o.lt) (hs : cur.stop.reset = false) (hb : (s.entry o.lt).binding = some b)
    (hr : r.outcome ≠ .done ∨ b.state ≠ .isolated)
    (undue : b.state ≠ .active ∨ b.threshold = 0 ∨ r.outcome.targetFailure = false)
    (quiet : s.noneQueued) (work : (s.seg i).noWork)
    (settled : settleHost k cur.stop r (s.mapTaken i o.lt r) = (s.mapTaken i o.lt r).attemptEnded k o c x
      ((s.mapTaken i o.lt r).unreferenced o.lt) status res r.bytesAcked) :
    ((s.attemptEnded k o c x { s.counted o.lt r with refCount := (s.entry o.lt).refCount - 1 } status res
      r.bytesAcked).putSeg i { (s.seg i).endsWith r with state := .idle }).endsIn i cur
        (finish (endTransaction i cur r (s.putSeg i ((s.seg i).endsWith r)))) := by
  refine endTransaction_leavesBus (fun lt e => ?_) ?_ quiet (endsWith_noWork work r)
    ⟨endsWith_clock _ _, endsWith_data _ _⟩
  · rw [← Option.some.inj (hlt.symm.trans e)]
    exact isolationDue_not (s := s.putSeg i _) hb undue
  · rw [mapTakes_taken hlt hb hr, ownerTakes_host hw hs, settled, attemptEnded_taken]

/-- R102, R117, R128: an attempt that goes to BACKOFF, and whose segment is then disabled. -/
theorem hostEnds_disabled (hw : cur.work = .host k o.kind) (hlt : cur.lt = some o.lt)
    (hs : cur.stop.reset = false) (hb : (s.entry o.lt).binding = some b) (hd : b.state ≠ .draining)
    (hr : r.outcome ≠ .done ∨ b.state ≠ .isolated)
    (undue : b.state ≠ .active ∨ b.threshold = 0 ∨ r.outcome.targetFailure = false) (hp : s.postingOpen)
    (quiet : s.noneQueued) (work : (s.seg i).noWork) (h : s.carries k o c x) (hi : o.segment = i)
    (retry : o.mayRetry x r) (hc : x.cancelRequested = false) (disable : cur.stop.disable = true) :
    ∃ v, ((s.attemptEnded k o c x { s.counted o.lt r with refCount := (s.entry o.lt).refCount - 1 }
      (.of .segmentDisabled) x.result r.bytesAcked).putSeg i { (s.seg i).endsWith r with
        state := .idle }).disables i v ∧
      finish (endTransaction i cur r (s.putSeg i ((s.seg i).endsWith r))) = finish v := by
  subst hi
  obtain ⟨u, hu⟩ : ∃ u, u = s.mapTaken o.segment o.lt r := ⟨_, rfl⟩
  have carried : u.carries k o c x := by rw [hu]; exact h
  have bound : (u.entry o.lt).binding = some b := by rw [hu, mapTaken_entry]; exact hb
  have unlisted : (u.seg o.segment).pendingList = [] := by rw [hu, mapTaken_seg]; exact work.1
  have still : u.noneQueued := by rw [hu]; exact quiet
  have room : u.postingOpen := by rw [hu]; exact hp
  have ends : completeDisable o.segment (u.backsOff k o r.bytesAcked) = completeDisable o.segment
      (u.attemptEnded k o c x (u.unreferenced o.lt) (.of .segmentDisabled) x.result r.bytesAcked) :=
    (completeDisable_one (s := u.backsOff k o r.bytesAcked) (backsOff_carries carried r.bytesAcked)
      (backoffState_waits _ _) bound hd room still (by rw [backsOff_seg, unlisted])).trans
      (congrArg _ (backsOff_opEnded u k o c x unlisted _ _))
  have taken := attemptEnded_taken (s := s) (i := o.segment) k o c x r (.of .segmentDisabled) x.result
  rw [← hu] at taken
  obtain ⟨w, hw'⟩ : ∃ w, w = s.attemptEnded k o c x { s.counted o.lt r with
    refCount := (s.entry o.lt).refCount - 1 } (.of .segmentDisabled) x.result r.bytesAcked := ⟨_, rfl⟩
  have quiet' : w.noneQueued := by rw [hw']; exact quiet
  rw [← hw'] at taken ⊢
  have idle : (w.putSeg o.segment ((s.seg o.segment).endsWith r)).inState o.segment .idle =
      w.putSeg o.segment { (s.seg o.segment).endsWith r with state := .idle } := by
    simp [State.inState]
  have disabled : (w.putSeg o.segment { (s.seg o.segment).endsWith r with state := .idle }).disables o.segment
      (completeDisable o.segment (w.putSeg o.segment ((s.seg o.segment).endsWith r))) := by
    rw [← completeDisable_inState _ _ .idle, idle]
    exact completeDisable_disables (by rw [State.seg_putSeg_self]; exact work.1) quiet'
  refine ⟨_, disabled, ?_⟩
  rw [endTransaction_undue (fun lt e => ?_), mapTakes_taken hlt hb hr, ownerTakes_host hw hs, ← hu,
    settleHost_backsOff carried _ retry hc, afterTransaction, if_pos disable, ends, taken,
    opportunity_notIdle disabled.notIdle]
  rw [← Option.some.inj (hlt.symm.trans e)]
  exact isolationDue_not (s := s.putSeg o.segment _) hb undue

end

end Sys2Proof.Machine
end

section
/-! Attempts that are made again, stops of a WRITE and of a READ, and the stop of any transaction (R88 to
R91, R102, R130), for O52. -/

namespace Sys2Proof.Machine

section
variable {s : State} {i : SegId} {cur : Current} {r : AttemptResult} {k : SlotId} {o : OpSlot} {c : CtxId}
  {x : Context} {b : Binding}

/-- R102: a host attempt whose slot goes to BACKOFF leaves the segment IDLE before the grant opportunity. -/
theorem hostEnds_backsOff (hw : cur.work = .host k o.kind) (hlt : cur.lt = some o.lt)
    (hs : cur.stop.reset = false) (hb : (s.entry o.lt).binding = some b)
    (hr : r.outcome ≠ .done ∨ b.state ≠ .isolated)
    (undue : b.state ≠ .active ∨ b.threshold = 0 ∨ r.outcome.targetFailure = false)
    (quiet : s.noneQueued) (h : s.carries k o c x) (hi : o.segment = i) (hl : (s.seg i).pendingList = [])
    (retry : o.mayRetry x r) (hc : x.cancelRequested = false) (enabled : cur.stop.disable = false) :
    endTransaction i cur r (s.putSeg i ((s.seg i).endsWith r)) = opportunity i
      (((s.putSlot k (some { o with
        state := backoffState s.timebase.tick (s.seg i).config.retryGap
        lastAcked := r.bytesAcked })).putEntry o.lt (s.counted o.lt r)).putSeg i
          { (s.seg i).endsWith r with state := .idle, pendingList := [k] }) := by
  subst hi
  have carried : (s.mapTaken o.segment o.lt r).carries k o c x := h
  have lines : (((s.mapTaken o.segment o.lt r).backsOff k o r.bytesAcked).seg o.segment).clockLine.high = true ∧
      (((s.mapTaken o.segment o.lt r).backsOff k o r.bytesAcked).seg o.segment).dataLine.high = true := by
    rw [backsOff_seg, mapTaken_seg]
    exact ⟨endsWith_clock (s.seg o.segment) r, endsWith_data (s.seg o.segment) r⟩
  rw [endTransaction_undue (fun lt e => ?_), mapTakes_taken hlt hb hr, ownerTakes_host hw hs,
    settleHost_backsOff carried _ retry hc, afterTransaction_idle (u := (s.mapTaken o.segment o.lt r).backsOff k o r.bytesAcked) enabled quiet lines]
  · refine congrArg (opportunity o.segment) ?_
    simp [State.inState, State.backsOff, enterBackoff_eq, State.mapTaken, Segment.endsWith, hl]
  · rw [← Option.some.inj (hlt.symm.trans e)]
    exact isolationDue_not (s := s.putSeg o.segment _) hb undue

/-- R64, R94, R96: a lone PENDING operation is granted on an IDLE segment with free lines. -/
theorem opportunity_pending {q : State} {p : OpSlot} (idle : (q.seg i).state = .idle)
    (free : (q.seg i).linesFree) (quiet : q.noneQueued) (hl : (q.seg i).pendingList = [k])
    (due : (q.seg i).dueList = []) (calm : ¬ ((q.seg i).config.alertEnable = true ∧
      (q.seg i).alert.suspended = false ∧ (q.seg i).alertLow = true))
    (hk : q.slot k = some p) (hp : p.state = .pending) (hx : q.ctx p.context = some x) :
    opportunity i q = (q.putSlot k (some { p with state := .active false, attempts := p.attempts + 1 })).putSeg i
      (({ q.seg i with pendingList := [], consecHost := 0 } : Segment).granted (.host k p.kind) (some p.lt)
        (hostScript p.address x.request)) := by
  have first : eligible i q = some k := eligible_first (l1 := []) (l2 := []) hl ⟨p, hk, hp, by simp⟩
    fun m1 j m2 e => by simp at e
  rw [opportunity_noneQueued i quiet, arbitrate_chosen idle free
    (choose_host (mt (alertCalled_iff _).1 calm) (.inl due) first), grant_host hk hx]
  simp [hl, due]

end

/-! ### The bytes of a WRITE and of a READ that is stopped -/

theorem verdict_write_sent (a : BusAddr) {ws : List Byte} {j : Nat} (h : j < ws.length) : ∃ rest,
    verdict (writePhase a ws) (sentBytes j) = .running ⟨j, true, []⟩ rest .write := by
  obtain ⟨v, rest, e⟩ := verdict_writePhase_lt a h [] []
  rw [List.append_nil, List.append_nil] at e
  exact ⟨_, e⟩

theorem sentBytes_take {n j : Nat} (h : n < j) : (sentBytes j).take (n + 1) = sentBytes n := by
  simp [sentBytes, List.take_replicate, Nat.min_eq_left (Nat.le_of_lt h)]

/-- R89: a WRITE passes no boundary at which a stop request held takes effect. -/
theorem keepsToStop_write {cur : Current} {a : BusAddr} {ws : List Byte} {j m : Nat}
    (hs : cur.script = writePhase a ws) (held : cur.stop.held = true) (hj : j < ws.length) (hm : m < j) :
    keepsToStop cur ⟨sentBytes j, m⟩ (sentBytes j).length = false := by
  obtain ⟨n, rfl⟩ : ∃ n, j = n + 1 := ⟨j - 1, by omega⟩
  obtain ⟨rest, passed⟩ := verdict_write_sent a (Nat.lt_of_succ_lt hj)
  have stops : letsStopPass cur.script ((sentBytes (n + 1)).take (n + 1)) = false := by
    rw [sentBytes_take (Nat.lt_succ_self n), letsStopPass, hs, passed]
  have not_all : ((List.range (sentBytes (n + 1)).length).all fun n' =>
      decide (n' ≤ m) || letsStopPass cur.script ((sentBytes (n + 1)).take n')) = false := by
    refine List.all_eq_false.2 ⟨n + 1, by simp [sentBytes], ?_⟩
    rw [stops, Bool.or_false, decide_eq_true_eq]
    omega
  rw [keepsToStop, not_all, held, Bool.and_false]
  rfl

theorem stopAtBoundary_passed {s : State} {i : SegId} {cur : Current} {t : BusTrace}
    (h : (s.seg i).state = .busy cur) (hk : keepsToStop cur t t.bytes.length = false) :
    stopAtBoundary i t s = s := by
  rw [stopAtBoundary, State.segState, h]
  dsimp only
  split
  · rw [if_neg (by rw [hk]; exact fun c => nomatch c.2)]
  · rfl

/-! ### Stops (R89 to R91, R130) -/

/-- R156: a survey read stopped takes nothing. -/
theorem takeSurveyRead_aborted (i : SegId) (n : SvId) {r : AttemptResult} (h : r.outcome = .aborted) (s : State) :
    takeSurveyRead i n r s = s := by
  unfold takeSurveyRead
  split
  · exact if_pos h
  · rfl

/-- R91, R130: where the transaction names no LT, nothing is left of a stopped one. -/
theorem ownerTakes_dropped {cur : Current} {r : AttemptResult} (hr : r.outcome = .aborted) (hl : cur.lt = none)
    (h : cur.stop.reset = true ∨ cur.work = .alert) (i : SegId) (s : State) : ownerTakes i cur r s = s := by
  by_cases reset : cur.stop.reset = true
  · rw [ownerTakes, if_pos reset, hl]
  · rw [ownerTakes_alert (h.resolve_left reset) (Bool.eq_false_iff.2 reset), takeAlert,
      if_neg (by rw [hr]; decide), if_pos hr]

theorem releaseRef_kept {s : State} {lt : LtId} {b : Binding} (hb : (s.entry lt).binding = some b)
    (h : b.state ≠ .draining ∨ (s.entry lt).refCount ≠ 1) :
    releaseRef lt s = s.putEntry lt (s.unreferenced lt) := by
  rw [releaseRef_eq hb, if_neg fun c => h.elim (fun d => d c.1) fun d => d c.2]
  rfl

/-- R91, R130: a stopped survey read, and any transaction after a RESET, release their reference alone. -/
theorem ownerTakes_releases {s : State} {cur : Current} {r : AttemptResult} {lt : LtId} {b : Binding}
    (hr : r.outcome = .aborted) (hl : cur.lt = some lt) (hb : (s.entry lt).binding = some b)
    (ref : b.state ≠ .draining ∨ (s.entry lt).refCount ≠ 1) (quiet : s.noneQueued)
    (h : cur.stop.reset = true ∨ ∃ n, cur.work = .survey n) (i : SegId) :
    ownerTakes i cur r s = s.putEntry lt (s.unreferenced lt) := by
  have released : examine (releaseRef lt s) = s.putEntry lt (s.unreferenced lt) := by
    rw [releaseRef_kept hb ref]
    exact examine_stay quiet rfl
  by_cases reset : cur.stop.reset = true
  · rw [ownerTakes, if_pos reset, hl]
    exact released
  · obtain ⟨n, hn⟩ := h.resolve_left reset
    rw [ownerTakes, if_neg reset, hn]
    dsimp only
    rw [takeSurveyRead_aborted i n hr, hl]
    exact released

section
variable {s : State} {i : SegId} {cur : Current} {t : BusTrace} {p : Progress}

/-- R89: what a stop makes of a transaction, by what its owner takes. -/
theorem stopEnds {u : State} (h : (s.seg i).state = .busy cur) (hs : cur.stopsAt t p) (work : (s.seg i).noWork)
    (bound : ∀ lt, cur.lt = some lt → ∃ b, (s.entry lt).binding = some b) (quiet : u.noneQueued)
    (taken : ownerTakes i cur (p.failed .aborted) (mapTakes cur (p.failed .aborted)
      (s.putSeg i ((s.seg i).endsWith (p.failed .aborted)))) =
        u.putSeg i ((s.seg i).endsWith (p.failed .aborted))) :
    (u.putSeg i { (s.seg i).sees ⟨true, true⟩ with state := .idle }).endsIn i cur
      (exec (.stopAtByteBoundary i t) s) := by
  have ends := endTransaction_leavesBus (r := p.failed .aborted)
    (s := s.putSeg i ((s.seg i).endsWith (p.failed .aborted))) (fun lt e => by
      obtain ⟨b, hb⟩ := bound lt e
      exact isolationDue_not (s := s.putSeg i _) hb (.inr (.inr rfl)))
    taken quiet (endsWith_noWork work _) ⟨endsWith_clock _ _, endsWith_data _ _⟩
  rw [endsWith_kept (g := s.seg i) (r := p.failed .aborted) (by simp [Progress.failed])] at ends
  have exec_eq : exec (.stopAtByteBoundary i t) s = finish (endTransaction i cur (p.failed .aborted)
      (s.putSeg i ((s.seg i).sees ⟨true, true⟩))) :=
    congrArg finish ((stopAtBoundary_stopsAt h hs).trans (by rw [endsWith_kept (by simp [Progress.failed])]))
  rw [State.endsIn, exec_eq]
  exact ends

/-- R132: a host attempt stopped. -/
theorem stopEnds_host {k : SlotId} {o : OpSlot} {c : CtxId} {x : Context} {b : Binding}
    (h : (s.seg i).state = .busy cur) (hs : cur.stopsAt t p) (work : (s.seg i).noWork)
    (hw : cur.work = .host k o.kind) (hl : cur.lt = some o.lt) (reset : cur.stop.reset = false)
    (hc : s.carries k o c x) (hi : o.segment = i) (cancel : x.cancelRequested = cur.stop.cancel)
    (hb : (s.entry o.lt).binding = some b) (hd : b.state ≠ .draining) (hp : s.postingOpen)
    (quiet : s.noneQueued) :
    ((s.attemptEnded k o c x { s.counted o.lt (p.failed .aborted) with refCount := (s.entry o.lt).refCount - 1 }
      (.of (if cur.stop.cancel then .cancelled else .segmentDisabled)) x.result p.bytesAcked).putSeg i
        { (s.seg i).sees ⟨true, true⟩ with state := .idle }).endsIn i cur
          (exec (.stopAtByteBoundary i t) s) := by
  refine stopEnds h hs work (fun lt e => ⟨b, Option.some.inj (hl.symm.trans e) ▸ hb⟩) quiet ?_
  have unlisted : ((s.mapTaken i o.lt (p.failed .aborted)).seg o.segment).pendingList = [] := by
    rw [hi, mapTaken_seg]
    exact work.1
  have bound : ((s.mapTaken i o.lt (p.failed .aborted)).entry o.lt).binding = some b := by
    rw [mapTaken_entry]
    exact hb
  rw [mapTakes_taken hl hb (.inl (by simp [Progress.failed])), ownerTakes_host hw reset]
  exact (settleHost_aborted (s := s.mapTaken i o.lt (p.failed .aborted)) hc bound hd hp quiet unlisted cancel.trans
    rfl).trans (attemptEnded_taken k o c x (p.failed .aborted) _ _)

end

/-- R10: FAIL_COUNT is 0 after an attempt stopped behind an acknowledged address byte. -/
theorem counted_stopped {s : State} {lt : LtId} {b : Binding} (hb : (s.entry lt).binding = some b) (n : Nat)
    (data : List Byte) : ({ s.counted lt (Progress.failed ⟨n, true, data⟩ .aborted) with
      refCount := (s.entry lt).refCount - 1 } : MapEntry) = ⟨some b, 0, (s.entry lt).refCount - 1⟩ := by
  simp [State.counted, hb, Progress.failed, failCountAfter, Outcome.targetFailure]

end Sys2Proof.Machine
end

section
/-! Where a stop request takes effect and what a host attempt ends with (R88 to R91, R101, R102, R117, R128,
R130, R132): O52. -/

namespace Sys2Proof.Machine

section
variable {s : State} {i : SegId} {k : SlotId} {o : OpSlot} {c : CtxId} {x : Context} {b : Binding}

/-- R89, R132: a single-target request cancelled behind its address byte. -/
theorem cancelStops {script : List BusItem} {t : BusTrace} {n : Nat} {data : List Byte}
    (h : (s.seg i).state = .busy ⟨.host k o.kind, some o.lt, script, .transfer, ⟨true, false, false⟩⟩)
    (hc : s.carries k o c x) (hi : o.segment = i) (cancel : x.cancelRequested = true) (res : x.result = none)
    (hb : (s.entry o.lt).binding = some b) (active : b.state = .active) (hp : s.postingOpen)
    (quiet : s.noneQueued) (work : (s.seg i).noWork)
    (hs : Current.stopsAt ⟨.host k o.kind, some o.lt, script, .transfer, ⟨true, false, false⟩⟩ t
      ⟨n, true, data⟩) :
    exec (.stopAtByteBoundary i t) s = finish (((((s.putSlot k none).putEntry o.lt
      ⟨some b, 0, (s.entry o.lt).refCount - 1⟩).putCtx c none).putSeg i
        { (s.seg i).sees ⟨true, true⟩ with state := .idle }).withRecord
      { tag := x.request.tag, status := .of .cancelled, kind := o.kind, target := .lt o.lt
        attempts := o.attempts, finishTime := s.timebase.time, result := none
        bytesAcked := if o.kind = .write ∨ o.kind = .writeRead then some n else none
        successSet := none, failSet := none }) := by
  obtain ⟨ends, -⟩ := stopEnds_host h hs work rfl rfl rfl hc hi cancel hb (by rw [active]; decide) hp quiet
  refine (ends rfl).trans (congrArg finish ?_)
  rw [counted_stopped hb, res]
  rfl

/-- R89: a stop at the boundary behind `j` acknowledged bytes of a WRITE. -/
theorem stopsAt_write {cur : Current} {a : BusAddr} {ws : List Byte} {j m : Nat} (phase : cur.phase = .transfer)
    (held : cur.stop ≠ ⟨false, false, false⟩) (hs : cur.script = writePhase a ws) (hj : j < ws.length)
    (h1 : j ≤ m) (h2 : m ≤ j + 1) : cur.stopsAt ⟨sentBytes j, m⟩ ⟨j, true, []⟩ := by
  obtain ⟨rest, sent⟩ := verdict_write_sent a hj
  have len : (sentBytes j).length = j + 1 := by simp [sentBytes]
  refine ⟨phase, held, by simp [sentBytes], ?_, ?_, .inl ⟨rest, by rw [hs]; exact sent⟩⟩
  · rw [len]; exact h2
  · rw [len]; exact Nat.succ_le_succ h1

/-- R89: a stop by a byte of a READ left unacknowledged. -/
theorem stopsAt_read {cur : Current} {a : BusAddr} {n m : Nat} {vs : List Byte} (v : Byte)
    (phase : cur.phase = .transfer) (held : cur.stop ≠ ⟨false, false, false⟩)
    (hs : cur.script = readPhase a (n + 1)) (hn : vs.length < n) (h1 : vs.length + 1 ≤ m)
    (h2 : m ≤ vs.length + 2) :
    cur.stopsAt ⟨.acked :: (vs.map (.read · true) ++ [.read v false]), m⟩ ⟨0, true, vs ++ [v]⟩ := by
  have len : (BusByte.acked :: (vs.map (.read · true) ++ [.read v false])).length = vs.length + 2 := by simp
  refine ⟨phase, held, by simp, ?_, ?_, .inr ?_⟩
  · rw [len]; exact h2
  · rw [len]; exact Nat.succ_le_succ h1
  · rw [hs]
    exact runBytes_cut (Nat.succ_lt_succ hn) v ⟨0, true, []⟩ .readAddress

/-- R90, R91, R128, R130: the ends of a stopped transaction, by its owner. -/
theorem stopped_ends {cur : Current} {t : BusTrace} {p : Progress} (h : (s.seg i).state = .busy cur)
    (hs : cur.stopsAt t p) (quiet : s.noneQueued) (work : (s.seg i).noWork) :
    (cur.lt = none → cur.stop.reset = true ∨ cur.work = .alert ∧ cur.stop.disable = true →
      (s.putSeg i { (s.seg i).sees ⟨true, true⟩ with state := .idle }).endsIn i cur
        (exec (.stopAtByteBoundary i t) s)) ∧
    (∀ lt b, cur.lt = some lt → (s.entry lt).binding = some b →
      b.state ≠ .draining ∨ (s.entry lt).refCount ≠ 1 →
      cur.stop.reset = true ∨ (∃ n, cur.work = .survey n) ∧ cur.stop.disable = true →
      ((s.putEntry lt { s.counted lt (p.failed .aborted) with refCount := (s.entry lt).refCount - 1 }).putSeg i
        { (s.seg i).sees ⟨true, true⟩ with state := .idle }).endsIn i cur
          (exec (.stopAtByteBoundary i t) s)) := by
  refine ⟨fun hl owner => stopEnds h hs work (fun lt e => nomatch hl.symm.trans e) quiet ?_,
    fun lt b hl hb ref owner => stopEnds h hs work (fun lt' e => ⟨b, Option.some.inj (hl.symm.trans e) ▸ hb⟩)
      quiet ?_⟩
  · rw [mapTakes_none hl, ownerTakes_dropped rfl hl (owner.imp_right And.left)]
  · rw [mapTakes_taken hl hb (.inl (by simp [Progress.failed])),
      ownerTakes_releases (s := s.mapTaken i lt (p.failed .aborted)) (r := p.failed .aborted) (b := b) rfl hl
        (by rw [mapTaken_entry]; exact hb) (by rw [mapTaken_entry]; exact ref) quiet (owner.imp_right And.left),
      State.unreferenced, mapTaken_entry]
    simp [State.mapTaken, State.counted]

/-- R88, R101, R117, R132: the ends of a host attempt with its own outcome. -/
theorem own_ends {cur : Current} {t : BusTrace} {r : AttemptResult} (h : (s.seg i).state = .busy cur)
    (own : cur.endsOwn t r) (hw : cur.work = .host k o.kind) (hl : cur.lt = some o.lt)
    (reset : cur.stop.reset = false) (cancel : x.cancelRequested = cur.stop.cancel) (hc : s.carries k o c x)
    (hi : o.segment = i) (hb : (s.entry o.lt).binding = some b) (active : b.state = .active)
    (threshold : b.threshold = 0) (hp : s.postingOpen) (quiet : s.noneQueued) (work : (s.seg i).noWork) :
    let ends (status : Status) (res : Option (List Byte)) : Prop :=
      ((s.attemptEnded k o c x { s.counted o.lt r with refCount := (s.entry o.lt).refCount - 1 } status res
        r.bytesAcked).putSeg i { (s.seg i).endsWith r with state := .idle }).endsIn i cur
          (exec (.transactionEnd i t ⟨true, true⟩) s)
    (r.outcome = .done → ends .ok
      (if o.kind = .read ∨ o.kind = .writeRead ∨ o.kind = .blockRead then some r.data else x.result)) ∧
    (r.outcome ≠ .done → ¬ o.mayRetry x r → ends (.of r.outcome) x.result) ∧
    (o.mayRetry x r → cur.stop.cancel = true → ends (.of .cancelled) x.result) ∧
    (o.mayRetry x r → cur.stop.cancel = false → cur.stop.disable = true →
      ends (.of .segmentDisabled) x.result) := by
  obtain ⟨step, other⟩ := transactionEnds_own h own
  have exec_eq : exec (.transactionEnd i t ⟨true, true⟩) s =
      finish (endTransaction i cur r (s.putSeg i ((s.seg i).endsWith r))) := congrArg finish step
  have unlisted : ((s.mapTaken i o.lt r).seg o.segment).pendingList = [] := by
    rw [hi, mapTaken_seg]
    exact work.1
  have bound : ((s.mapTaken i o.lt r).entry o.lt).binding = some b := by
    rw [mapTaken_entry]
    exact hb
  have busy : ((s.mapTaken i o.lt r).seg o.segment).state ≠ .idle := by
    rw [hi, mapTaken_seg]
    exact fun e => nomatch h.symm.trans e
  have live : b.state ≠ .draining := by rw [active]; decide
  have not_isolated : r.outcome ≠ .done ∨ b.state ≠ .isolated := .inr (by rw [active]; decide)
  rw [exec_eq]
  intro ends
  have host {status : Status} {res : Option (List Byte)} := hostEnds (s := s) (i := i) (cur := cur) (r := r)
    (k := k) (o := o) (c := c) (x := x) (status := status) (res := res) hw hl reset hb not_isolated
    (.inr (.inl threshold)) quiet work
  refine ⟨fun hr => ?_, fun hr final => ?_, fun retry stop => ?_, fun retry stop disable => ?_⟩
  · exact host (settleHost_done (s := s.mapTaken i o.lt r) hc bound live hp quiet unlisted _ hr)
  · exact host (settleHost_final (s := s.mapTaken i o.lt r) hc bound live hp quiet unlisted _ hr other final)
  · exact host (settleHost_cancelled (s := s.mapTaken i o.lt r) hc bound live hp quiet unlisted busy _ retry
      (cancel.trans stop))
  · refine ⟨fun enabled => absurd (enabled.symm.trans disable) (by decide), fun _ => ?_⟩
    exact hostEnds_disabled hw hl reset hb live not_isolated (.inr (.inl threshold)) hp quiet work hc hi retry
      (cancel.trans stop) disable

end

/-- R96, R102: an operation PENDING again is granted on the segment its attempt has left. -/
theorem opportunity_again {s : State} {i : SegId} {k : SlotId} {p : OpSlot} {x : Context}
    (hp : p.state = .pending) (hx : s.ctx p.context = some x) (quiet : s.noneQueued) (work : (s.seg i).noWork)
    (lt : LtId) (e : MapEntry) (r : AttemptResult) :
    opportunity i (((s.putSlot k (some p)).putEntry lt e).putSeg i
      { (s.seg i).endsWith r with state := .idle, pendingList := [k] }) =
    ((s.putSlot k (some { p with state := .active false, attempts := p.attempts + 1 })).putEntry lt e).putSeg i
      (({ (s.seg i).endsWith r with state := .idle, consecHost := 0 } : Segment).granted (.host k p.kind)
        (some p.lt) (hostScript p.address x.request)) := by
  obtain ⟨g, hg⟩ : ∃ g : Segment, g = { (s.seg i).endsWith r with state := .idle, pendingList := [k] } :=
    ⟨_, rfl⟩
  obtain ⟨q, hq⟩ : ∃ q, q = ((s.putSlot k (some p)).putEntry lt e).putSeg i g := ⟨_, rfl⟩
  have on : q.seg i = g := by rw [hq, State.seg_putSeg_self]
  rw [← hg, ← hq]
  have granted := opportunity_pending (q := q) (i := i) (k := k) (p := p) (x := x) (by rw [on, hg])
    (by rw [on, hg]; exact linesFree_of_high (endsWith_clock (s.seg i) r) (endsWith_data (s.seg i) r))
    (by rw [hq]; exact quiet) (by rw [on, hg]) (by rw [on, hg]; exact work.2.1) (by rw [on, hg]; exact work.2.2)
    (by rw [hq]; exact State.slot_putSlot_self _ _ _) hp (by rw [hq]; exact hx)
  rw [granted, on, hg, hq]
  simp [Segment.endsWith, work.1]

/-- Settles O52: the bytes at a stop, the stop of any owner, and the attempt's own end. -/
theorem cancelledAttemptStops : Obligations.CancelledAttemptStops := by
  refine ⟨fun s i k o c x a b script h hc hi cancel res hb active hp quiet work => ⟨fun j m kind hs hj =>
    ⟨fun h1 h2 => ?_, fun early => ?_⟩, fun n m vs v kind hs hn h1 h2 => ?_⟩,
    fun s i cur t p h hs quiet work => ?_,
    fun s i cur t r k o c x b h own hw hl reset cancel hc hi hb active threshold hp quiet work => ?_⟩
  · have stop := stopsAt_write (cur := ⟨.host k o.kind, some o.lt, script, .transfer, ⟨true, false, false⟩⟩)
      rfl nofun hs hj h1 h2
    refine (cancelStops h hc hi cancel res hb active hp quiet work stop).trans ?_
    rw [if_pos (.inl kind)]
  · exact congrArg finish (stopAtBoundary_passed h (keepsToStop_write hs rfl hj early))
  · have stop := stopsAt_read (cur := ⟨.host k o.kind, some o.lt, script, .transfer, ⟨true, false, false⟩⟩)
      v rfl nofun hs hn h1 h2
    refine (cancelStops h hc hi cancel res hb active hp quiet work stop).trans ?_
    rw [if_neg (by rw [kind]; decide)]
  · obtain ⟨dropped, released⟩ := stopped_ends h hs quiet work
    refine ⟨dropped, fun lt b hl hb ref owner => ?_,
      fun k o c x b hw hl reset hc hi cancel hb hd hp => ?_⟩
    · dsimp only
      rw [countOutcome_entry hb]
      exact released lt b hl hb ref owner
    · dsimp only
      rw [countOutcome_entry hb]
      exact stopEnds_host h hs work hw hl reset hc hi cancel hb hd hp quiet
  · obtain ⟨done, final, cancelled, disabled⟩ :=
      own_ends h own hw hl reset cancel hc hi hb active threshold hp quiet work
    obtain ⟨step, -⟩ := transactionEnds_own h own
    rw [countOutcome_entry hb]
    refine ⟨done, final, cancelled, disabled, fun retry stop enabled => ?_⟩
    have waits := hostEnds_backsOff hw hl reset hb (.inr (by rw [active]; decide)) (.inr (.inl threshold)) quiet
      hc hi work.1 retry (cancel.trans stop) enabled
    refine ⟨fun gap => congrArg finish ((step.trans waits).trans ?_),
      fun gap => congrArg finish ((step.trans waits).trans ?_)⟩
    · rw [backoffState_gap _ gap]
      refine opportunity_backoff (k := k) ?_ (State.slot_putSlot_self _ _ _) nofun ?_ ?_ ?_
      all_goals rw [State.seg_putSeg_self]
      · exact work.2.1
      · exact work.2.2
      · exact linesFree_of_high (endsWith_clock (s.seg i) r) (endsWith_data (s.seg i) r)
    · have pending : backoffState s.timebase.tick (s.seg i).config.retryGap = .pending := if_pos gap
      rw [pending]
      exact opportunity_again (p := { o with state := .pending, lastAcked := r.bytesAcked })
        rfl (by rw [hc.2.2.1]; exact hc.2.1) quiet work _ _ r

end Sys2Proof.Machine
end

section
/-! A READ that completes its request, on an ACTIVE entry and on a DRAINING one that loses its last reference
(R6, R81, R88, R132, R137): O53. -/

namespace Sys2Proof.Machine

theorem orphanTarget_none {s : State} {lt : LtId} (h : ∀ n, s.svLt n ≠ some lt) : orphanTarget lt s = s :=
  forSurvey_still fun n => if_neg (h n)

/-- R6: the last reference of a DRAINING entry that no survey entry names. -/
theorem releaseRef_retires {s : State} {lt : LtId} {b : Binding} (hb : (s.entry lt).binding = some b)
    (hd : b.state = .draining) (last : (s.entry lt).refCount = 1) (h : ∀ n, s.svLt n ≠ some lt) :
    releaseRef lt s = (s.putEntry lt ⟨none, 0, 0⟩).withNotice (.targetRetired lt b.segment b.address) := by
  rw [releaseRef_eq hb, if_pos ⟨hd, last⟩, completeRetirement_posted, orphanTarget_none (by exact h)]
  simp

section
variable {s : State} {i : SegId} {k : SlotId} {o : OpSlot} {c : CtxId} {x : Context} {b : Binding}
  {data : List Byte}

/-- The transaction of a READ of `n` bytes. -/
def readCurrent (k : SlotId) (lt : LtId) (a : BusAddr) (n : Nat) : Current :=
  ⟨.host k .read, some lt, .addressRead a :: (List.replicate (n - 1) (.read true) ++ [.read false]), .transfer,
    ⟨false, false, false⟩⟩

/-- R81: its bytes end it DONE. -/
theorem readCurrent_ends (k : SlotId) (lt : LtId) (a : BusAddr) (m : Nat) (hne : data ≠ []) :
    (readCurrent k lt a data.length).endsOwn ⟨.acked :: readBytes data, m⟩ ⟨.done, 0, true, data⟩ := by
  refine .inl ⟨rfl, ?_, .inl rfl⟩
  have items := readItems_eq (List.length_pos_iff.2 hne)
  exact (congrArg (fun l => verdict (.addressRead a :: l) _) items.symm).trans
    (runBytes_all data ⟨0, true, []⟩ .readAddress)

theorem read_active {a : BusAddr} {m : Nat} (h : (s.seg i).state = .busy (readCurrent k o.lt a data.length))
    (hc : s.carries k o c x) (hi : o.segment = i) (kind : o.kind = .read)
    (hb : (s.entry o.lt).binding = some b) (hp : s.postingOpen) (quiet : s.noneQueued)
    (work : (s.seg i).noWork) (hne : data ≠ []) (active : b.state = .active) :
    exec (.transactionEnd i ⟨.acked :: readBytes data, m⟩ ⟨true, true⟩) s = finish
      ((s.attemptEnded k o c x ⟨some b, 0, (s.entry o.lt).refCount - 1⟩ .ok (some data) 0).putSeg i
        { (s.seg i).sees ⟨true, true⟩ with state := .idle }) := by
  have own := readCurrent_ends k o.lt a m hne
  obtain ⟨step, -⟩ := transactionEnds_own h own
  obtain ⟨ends, -⟩ := hostEnds (s := s) (i := i) (k := k) (o := o) (c := c) (x := x)
    (cur := readCurrent k o.lt a data.length) (r := ⟨.done, 0, true, data⟩)
    (congrArg (Work.host k) kind.symm) rfl rfl hb (.inr (by rw [active]; decide)) (.inr (.inr rfl)) quiet work
    (settleHost_done (s := s.mapTaken i o.lt ⟨.done, 0, true, data⟩) (b := b) hc
      (by rw [mapTaken_entry]; exact hb) (by rw [active]; decide) hp quiet
      (by rw [hi, mapTaken_seg]; exact work.1) _ rfl)
  refine (congrArg finish step).trans ((ends rfl).trans (congrArg finish ?_))
  rw [if_pos (.inl kind), endsWith_kept (by exact nofun)]
  simp [State.counted, failCountAfter, Outcome.targetFailure, hb]

/-- R6, R65, R137: the state after a READ of the single-target context `c` has ended DONE with the last
reference of a DRAINING entry that no survey entry names. -/
def State.readRetired (s : State) (k : SlotId) (o : OpSlot) (c : CtxId) (x : Context) (b : Binding)
    (data : List Byte) : State :=
  (((s.putSlot k none).putCtx c none).putEntry o.lt ⟨none, 0, 0⟩ |>.withNotice
      (.targetRetired o.lt b.segment b.address)).withRecord
    { tag := x.request.tag, status := .ok, kind := .read, target := .lt o.lt
      attempts := o.attempts, finishTime := s.timebase.time, result := some data, bytesAcked := none
      successSet := none, failSet := none }

/-- R6, R65: the slot of an attempt that ends with the last reference of its DRAINING target. -/
theorem settleHost_retires {r : AttemptResult} (hc : s.carries k o c x)
    (hb : (s.entry o.lt).binding = some b) (hd : b.state = .draining) (last : (s.entry o.lt).refCount = 1)
    (unnamed : ∀ n, s.svLt n ≠ some o.lt) (hp : s.postingOpen) (quiet : s.noneQueued)
    (hl : (s.seg o.segment).pendingList = []) (kind : o.kind = .read) (hr : r.outcome = .done)
    (stop : StopRequest) : settleHost k stop r s =
      s.readRetired k o c x b r.data := by
  have hc' := hc.acked r.bytesAcked
  obtain ⟨-, own, -⟩ := settleHost_of hc.1 (by rw [hc.2.2.1]; exact hc.2.1) stop r
  have final : ¬ o.mayRetry x r := fun m => by
    have := m.1
    rw [hr] at this
    exact absurd this (by decide)
  have taken : takesResult x.request .done = true := (takesResult_single hc _).2 ⟨rfl, .inl kind⟩
  have slot := hc'.1
  obtain ⟨-, hx, hctx, -, one, -⟩ := hc
  have released := releaseRef_retires (s := s.putSlot k none) (lt := o.lt) hb hd last unnamed
  rw [own (by rw [hr]; decide) final, hr, slotEnd_frees .done r.data slot hl
    (u := ((s.putSlot k none).putEntry o.lt ⟨none, 0, 0⟩).withNotice (.targetRetired o.lt b.segment b.address))
    (by simpa using released) (by rw [hctx]; exact hx) one hp quiet, contextRecord_single hc']
  simp [taken, singleStatus, kind, hctx, State.readRetired]
  rfl

theorem read_draining {a : BusAddr} {m : Nat}
    (h : (s.seg i).state = .busy (readCurrent k o.lt a data.length))
    (hc : s.carries k o c x) (hi : o.segment = i) (kind : o.kind = .read)
    (hb : (s.entry o.lt).binding = some b) (hp : s.postingOpen) (quiet : s.noneQueued)
    (work : (s.seg i).noWork) (hne : data ≠ []) (hd : b.state = .draining)
    (last : (s.entry o.lt).refCount = 1) (unnamed : ∀ n, s.svLt n ≠ some o.lt) :
    exec (.transactionEnd i ⟨.acked :: readBytes data, m⟩ ⟨true, true⟩) s = finish
      ((s.readRetired k o c x b data).putSeg i
        { (s.seg i).sees ⟨true, true⟩ with state := .idle }) := by
  have own := readCurrent_ends k o.lt a m hne
  obtain ⟨step, -⟩ := transactionEnds_own h own
  obtain ⟨r, hr⟩ : ∃ r : AttemptResult, r = ⟨.done, 0, true, data⟩ := ⟨_, rfl⟩
  have seen : (s.seg i).endsWith r = (s.seg i).sees ⟨true, true⟩ := endsWith_kept (by rw [hr]; exact nofun)
  have settled := settleHost_retires (s := s.mapTaken i o.lt r) (r := r) (b := b) hc
    (by rw [mapTaken_entry]; exact hb) hd (by rw [mapTaken_entry]; exact last) unnamed hp quiet
    (by rw [hi, mapTaken_seg]; exact work.1) kind (by rw [hr]) ⟨false, false, false⟩
  rw [← hr] at step
  rw [← seen]
  obtain ⟨ends, -⟩ := endTransaction_leavesBus (s := s.putSeg i ((s.seg i).endsWith r)) (i := i) (r := r)
    (cur := readCurrent k o.lt a data.length) (g := (s.seg i).endsWith r)
    (u := s.readRetired k o c x b data)
    (fun lt e => by
      cases e
      exact isolationDue_not (s := s.putSeg i _) hb (.inl (by rw [hd]; decide)))
    (by
      rw [mapTakes_taken (cur := readCurrent k o.lt a data.length) rfl hb (.inr (by rw [hd]; decide)),
        ownerTakes_host (k := k) (kind := .read) rfl rfl]
      refine settled.trans ?_
      rw [hr]
      simp [State.mapTaken, State.readRetired])
    quiet (endsWith_noWork work r) ⟨endsWith_clock _ _, endsWith_data _ _⟩
  exact (congrArg finish step).trans (ends rfl)

end

/-- Settles O53: by the state of the entry. -/
theorem readRequestCompletes : Obligations.ReadRequestCompletes := by
  intro s i k o c x a b data m h hc hi kind hb hp quiet work hne
  refine ⟨fun active => ?_, fun hd last unnamed => ?_⟩
  · refine (read_active (a := a) h hc hi kind hb hp quiet work hne active).trans (congrArg finish ?_)
    simp [State.attemptEnded, kind]
  · refine (read_draining (a := a) h hc hi kind hb hp quiet work hne hd last unnamed).trans
      (congrArg finish ?_)
    simp [State.readRetired]

end Sys2Proof.Machine
end

section
/-! FAIL_COUNT, isolation and reinstatement, and the operation of a group request that ends with others
outstanding (R10, R11, R12, R15, R65, R67): O55. -/

namespace Sys2Proof.Machine

/-! ### FAIL_COUNT (R10) -/

theorem targetFailure_iff (o : Outcome) :
    o.targetFailure = true ↔ o = .addressNack ∨ o = .stretchTimeout := by
  cases o <;> simp [Outcome.targetFailure]

theorem failCountAfter_spec (r : AttemptResult) (n : Nat) :
    (r.outcome = .addressNack ∨ r.outcome = .stretchTimeout → failCountAfter r n = min (n + 1) 15) ∧
    (r.outcome ≠ .addressNack → r.outcome ≠ .stretchTimeout → r.addrAcked = true → failCountAfter r n = 0) ∧
    (r.outcome ≠ .addressNack → r.outcome ≠ .stretchTimeout → r.addrAcked = false →
      failCountAfter r n = n) := by
  have other (h1 : r.outcome ≠ .addressNack) (h2 : r.outcome ≠ .stretchTimeout) :
      ¬ r.outcome.targetFailure = true := fun h => ((targetFailure_iff _).1 h).elim h1 h2
  exact ⟨fun h => if_pos ((targetFailure_iff _).2 h),
    fun h1 h2 acked => (if_neg (other h1 h2)).trans (if_pos acked),
    fun h1 h2 unacked => (if_neg (other h1 h2)).trans (if_neg (by rw [unacked]; decide))⟩

/-! ### Isolation (R11, R12) -/

/-- A move of survey entries leaves the RQ alone. -/
theorem State.surveyMoved.rq {s t : State} {i : SegId} {f : SurveyConf → SurveyRun → SurveyRun}
    {leaves : SurveyConf → SurveyRun → Bool} (h : s.surveyMoved t i f leaves) : t.rq = s.rq := by
  obtain ⟨e, -, -⟩ := h
  rw [e]

theorem rq_withNotice (s : State) (b : NoticeBody) : (s.withNotice b).rq = s.rq := rfl

/-- R11: the entry ISOLATED. -/
def State.isolated (s : State) (lt : LtId) (b : Binding) : State :=
  s.putEntry lt { s.entry lt with binding := some { b with state := .isolated } }

theorem isolated_entry (s : State) (lt : LtId) (b : Binding) : (s.isolated lt b).entry lt =
    { s.entry lt with binding := some { b with state := .isolated } } := State.entry_putEntry_self _ _ _

/-- R11: isolation, `w` being the state after the waiting operations of the LT have ended. -/
theorem isolate_of {s w : State} {lt : LtId} {b : Binding} (hb : (s.entry lt).binding = some b)
    (hw : endEach .targetIsolated (isolationEnds lt b.segment (s.isolated lt b)) (s.isolated lt b) = w)
    (kept : (holdTarget lt w).entry lt = w.entry lt) (fails : (w.entry lt).failCount = (s.entry lt).failCount)
    (rq : (holdTarget lt w).noneQueued) : isolate lt s = (holdTarget lt w).withNotice
      (.targetIsolated lt b.segment b.address (s.entry lt).failCount) := by
  unfold State.isolated at hw
  rw [isolate, hb]
  dsimp only
  rw [hw, kept, fails, postNotice_eq]
  exact examine_stay rq (rq_withNotice _ _)

/-- R12: what isolation holds. -/
theorem holdTarget_kept {w : State} {lt : LtId} {b : Binding} (hb : (w.entry lt).binding = some b)
    (quiet : w.noneQueued) :
    w.surveyMoved (holdTarget lt w) b.segment (fun c r => if c.lt = lt then r.whenHeld else r)
      (fun c r => c.lt == lt && r.isDue) ∧
    (holdTarget lt w).entry lt = w.entry lt ∧ (holdTarget lt w).noneQueued := by
  have moved := holdTarget_moved hb
  refine ⟨moved, by rw [State.entry, moved.map]; rfl, ?_⟩
  have rq : (holdTarget lt w).rq = w.rq := moved.rq
  unfold State.noneQueued
  rw [rq]
  exact quiet

/-- R11 step 2: no listed operation is reached. -/
theorem isolationEnds_nil {s : State} {lt : LtId} {i : SegId}
    (h : ∀ j ∈ (s.seg i).pendingList, ∀ p, s.slot j = some p → p.lt ≠ lt ∨ p.kind = .probe) :
    isolationEnds lt i s = [] := by
  refine List.filter_eq_nil_iff.2 fun j hj => ?_
  cases hs : s.slot j with
  | none => exact Bool.false_ne_true
  | some p => rcases h j hj p hs with e | e <;> simp [e]

/-- R11 step 2: one listed operation is reached. -/
theorem isolationEnds_one {s : State} {lt : LtId} {i : SegId} {k : SlotId} {o : OpSlot}
    (hk : s.slot k = some o) (hlt : o.lt = lt) (kind : o.kind ≠ .probe) (mem : k ∈ (s.seg i).pendingList)
    (h : ∀ j ∈ (s.seg i).pendingList, j ≠ k → ∀ p, s.slot j = some p → p.lt ≠ lt ∨ p.kind = .probe)
    (nodup : (s.seg i).pendingList.Nodup) : isolationEnds lt i s = [k] := by
  have only : isolationEnds lt i s = (s.seg i).pendingList.filter (· == k) := by
    refine List.filter_congr fun j hj => ?_
    by_cases e : j = k
    · rw [e, hk]
      simp [hlt, kind]
    · have out : (match s.slot j with
        | some o => o.lt == lt && o.kind != .probe
        | none => false) = false := by
        cases hs : s.slot j with
        | none => rfl
        | some p => rcases h j hj e p hs with q | q <;> simp [q]
      rw [beq_false_of_ne e]
      exact out
  rw [only, List.filter_beq, List.count_eq_one_of_mem nodup mem]
  rfl

theorem isolates_none {s : State} {lt : LtId} {b : Binding} (hb : (s.entry lt).binding = some b)
    (quiet : s.noneQueued)
    (h : ∀ j ∈ (s.seg b.segment).pendingList, ∀ p, s.slot j = some p → p.lt ≠ lt ∨ p.kind = .probe) :
    isolate lt s = (holdTarget lt (s.isolated lt b)).withNotice
      (.targetIsolated lt b.segment b.address (s.entry lt).failCount) := by
  obtain ⟨-, kept, still⟩ := holdTarget_kept (w := s.isolated lt b) (lt := lt)
    (b := { b with state := .isolated }) (by rw [isolated_entry]) quiet
  have none_end : isolationEnds lt b.segment (s.isolated lt b) = [] := isolationEnds_nil h
  exact isolate_of hb (by rw [none_end]; rfl) kept (by rw [isolated_entry]) still

theorem isolates_one {s : State} {lt : LtId} {b : Binding} {k : SlotId} {o : OpSlot} {c : CtxId} {x : Context}
    (hb : (s.entry lt).binding = some b) (quiet : s.noneQueued) (hc : s.carries k o c x) (hlt : o.lt = lt)
    (hi : o.segment = b.segment) (kind : o.kind ≠ .probe) (waits : ∀ m, o.state ≠ .active m)
    (mem : k ∈ (s.seg b.segment).pendingList)
    (h : ∀ j ∈ (s.seg b.segment).pendingList, j ≠ k → ∀ p, s.slot j = some p → p.lt ≠ lt ∨ p.kind = .probe)
    (nodup : (s.seg b.segment).pendingList.Nodup) (busy : (s.seg b.segment).state ≠ .idle)
    (hp : s.postingOpen) :
    ∃ v, ((s.isolated lt b).opEnded k o c x .targetIsolated).surveyMoved v b.segment
      (fun c r => if c.lt = lt then r.whenHeld else r) (fun c r => c.lt == lt && r.isDue) ∧
      isolate lt s = v.withNotice (.targetIsolated lt b.segment b.address (s.entry lt).failCount) := by
  subst hlt
  have entry := isolated_entry s o.lt b
  have one : isolationEnds o.lt b.segment (s.isolated o.lt b) = [k] :=
    isolationEnds_one hc.1 rfl kind mem h nodup
  have ended : endEach .targetIsolated [k] (s.isolated o.lt b) =
      (s.isolated o.lt b).opEnded k o c x .targetIsolated :=
    (endWaiting_waiting (s := s.isolated o.lt b) _ hc.1 waits).trans
      (slotEnd_carries (s := s.isolated o.lt b) (b := { b with state := .isolated }) hc (by decide) (by decide)
        (by rw [entry]) nofun hp quiet fun _ => by rw [hi]; exact busy)
  have after : ((s.isolated o.lt b).opEnded k o c x .targetIsolated).entry o.lt =
      { (s.isolated o.lt b).entry o.lt with refCount := ((s.isolated o.lt b).entry o.lt).refCount - 1 } := by
    simp [State.opEnded]
  obtain ⟨moved, kept, still⟩ := holdTarget_kept (lt := o.lt) (b := { b with state := .isolated })
    (w := (s.isolated o.lt b).opEnded k o c x .targetIsolated) (by rw [after, entry]) quiet
  exact ⟨_, moved, isolate_of hb (by rw [one, ended]) kept (by rw [after, entry]) still⟩

end Sys2Proof.Machine
end

section
/-! The last attempt of an operation that isolates its target, the PROBE that reinstates it, and the
operation of a group (R11, R15, R65, R67, R88): O55. -/

namespace Sys2Proof.Machine

/-! ### A notice posted leaves the tables alone -/

@[simp] theorem State.seg_withNotice (s : State) (b : NoticeBody) (i : SegId) :
    (s.withNotice b).seg i = s.seg i := rfl
@[simp] theorem State.slot_withNotice (s : State) (b : NoticeBody) (k : SlotId) :
    (s.withNotice b).slot k = s.slot k := rfl
@[simp] theorem State.entry_withNotice (s : State) (b : NoticeBody) (lt : LtId) :
    (s.withNotice b).entry lt = s.entry lt := rfl
@[simp] theorem State.sv_withNotice (s : State) (b : NoticeBody) (n : SvId) :
    (s.withNotice b).sv n = s.sv n := rfl
@[simp] theorem State.timebase_withNotice (s : State) (b : NoticeBody) :
    (s.withNotice b).timebase = s.timebase := rfl

/-! ### The end of an attempt and its target -/

/-- R12: entries that are neither WAITING nor DUE stay as they are. -/
theorem holdTarget_still {s : State} {lt : LtId} (h : ∀ n, s.svLt n = some lt →
    s.svRun n = some .stopped ∨ s.svRun n = some .held ∨ s.svRun n = some .orphaned) : holdTarget lt s = s := by
  refine forSurvey_still fun n => ?_
  split
  · next hn => rcases h n hn with e | e | e <;> rw [holdEntry, e]
  · rfl

/-- R88: the end of a transaction of `lt`: `u` is what the owner, and isolation where it is due, leave. -/
theorem endTransaction_for {s q u : State} {i : SegId} {cur : Current} {r : AttemptResult} {g : Segment}
    {lt : LtId} (hl : cur.lt = some lt) (hq : ownerTakes i cur r (mapTakes cur r s) = q)
    (taken : (if isolationDue lt r s then isolate lt q else q) = u.putSeg i g) (quiet : u.noneQueued)
    (work : g.noWork) (lines : g.clockLine.high = true ∧ g.dataLine.high = true)
    (enabled : cur.stop.disable = false) :
    endTransaction i cur r s = u.putSeg i { g with state := .idle } := by
  have on : (u.putSeg i g).seg i = g := State.seg_putSeg_self _ _ _
  obtain ⟨kept, -⟩ := afterTransaction_leavesBus (u := u.putSeg i g) (i := i) (cur := cur) (r := r)
    quiet (by rw [on]; exact work) (by rw [on]; exact lines)
  unfold endTransaction isolateIf
  rw [hl]
  dsimp only
  rw [hq, taken]
  refine (kept enabled).trans ?_
  simp [State.inState]

section
variable {s : State} {i : SegId} {k : SlotId} {o : OpSlot} {c : CtxId} {x : Context} {b : Binding}
  {script : List BusItem} {t : BusTrace} {r : AttemptResult}

/-- The transaction of an operation with no stop requested. -/
def opCurrent (k : SlotId) (o : OpSlot) (script : List BusItem) : Current :=
  ⟨.host k o.kind, some o.lt, script, .transfer, ⟨false, false, false⟩⟩

theorem opCurrent_ends (h : (s.seg i).state = .busy (opCurrent k o script))
    (ended : verdict script t.bytes = .ended r) : exec (.transactionEnd i t ⟨true, true⟩) s =
      finish (endTransaction i (opCurrent k o script) r (s.putSeg i ((s.seg i).endsWith r))) ∧
      r.outcome ≠ .aborted := by
  obtain ⟨step, other⟩ := transactionEnds_own (t := t) (r := r) h (.inl ⟨rfl, ended, .inl rfl⟩)
  exact ⟨congrArg finish step, other⟩

/-- R11: the outcome raises FAIL_COUNT to the threshold. -/
theorem isolationDue_iff (hb : (s.entry o.lt).binding = some b) (active : b.state = .active)
    (threshold : b.threshold ≠ 0) (hr : r.outcome = .addressNack) (few : (s.entry o.lt).failCount < 15) :
    isolationDue o.lt r s = true ↔ (s.entry o.lt).failCount + 1 = b.threshold := by
  simp [isolationDue, hb, active, threshold, hr, Outcome.targetFailure, Config.failCeiling, few]

/-- R11, R101: the last attempt of an operation ends ADDRESS_NACK. -/
theorem lastAttempt_nack (h : (s.seg i).state = .busy (opCurrent k o script)) (hc : s.carries k o c x)
    (hi : o.segment = i) (ended : verdict script t.bytes = .ended r) (hb : (s.entry o.lt).binding = some b)
    (hseg : b.segment = i) (hp : s.postingOpen) (quiet : s.noneQueued) (work : (s.seg i).noWork) (hr : r.outcome = .addressNack)
    (last : x.request.retryBudget < o.attempts) (active : b.state = .active) (threshold : b.threshold ≠ 0)
    (survey : ∀ n, s.svLt n = some o.lt →
      s.svRun n = some .stopped ∨ s.svRun n = some .held ∨ s.svRun n = some .orphaned)
    (few : (s.entry o.lt).failCount < 15) :
    let after (st : Bound) : State := (s.attemptEnded k o c x
      ⟨some { b with state := st }, (s.entry o.lt).failCount + 1, (s.entry o.lt).refCount - 1⟩
        (.of .addressNack) x.result r.bytesAcked)
    exec (.transactionEnd i t ⟨true, true⟩) s = finish
      ((if (s.entry o.lt).failCount + 1 = b.threshold then
        (after .isolated).withNotice
          (.targetIsolated o.lt b.segment b.address ((s.entry o.lt).failCount + 1))
        else after .active).putSeg i { (s.seg i).sees ⟨true, true⟩ with state := .idle }) := by
  intro after
  obtain ⟨step, -⟩ := opCurrent_ends h ended
  have seen : (s.seg i).endsWith r = (s.seg i).sees ⟨true, true⟩ := endsWith_kept (by rw [hr]; decide)
  have final : ¬ o.mayRetry x r := fun m => Nat.not_le.2 last m.2.1
  have counted : ({ s.counted o.lt r with refCount := (s.entry o.lt).refCount - 1 } : MapEntry) =
      ⟨some { b with state := .active }, (s.entry o.lt).failCount + 1, (s.entry o.lt).refCount - 1⟩ := by
    have least : min ((s.entry o.lt).failCount + 1) 15 = (s.entry o.lt).failCount + 1 := by omega
    rw [State.counted, (failCountAfter_spec r _).1 (.inl hr), least, hb, ← active]
  have owner : ownerTakes i (opCurrent k o script) r (mapTakes (opCurrent k o script) r
      (s.putSeg i ((s.seg i).endsWith r))) = (after .active).putSeg i ((s.seg i).endsWith r) := by
    rw [mapTakes_taken (cur := opCurrent k o script) rfl hb (.inl (by rw [hr]; decide)),
      ownerTakes_host (k := k) (kind := o.kind) rfl rfl,
      settleHost_final (s := s.mapTaken i o.lt r) (b := b) hc (by rw [mapTaken_entry]; exact hb)
        (by rw [active]; decide) hp quiet (by rw [hi, mapTaken_seg]; exact work.1) _ (by rw [hr]; decide)
        (by rw [hr]; decide) final, attemptEnded_taken, counted, hr]
  rw [step, ← seen]
  refine congrArg finish (endTransaction_for (cur := opCurrent k o script) rfl owner ?_ ?_
    (endsWith_noWork work r) ⟨endsWith_clock _ _, endsWith_data _ _⟩ rfl)
  · have due := isolationDue_iff (s := s.putSeg i ((s.seg i).endsWith r)) hb active threshold hr few
    by_cases full : (s.entry o.lt).failCount + 1 = b.threshold
    · have entry : (((after .active).putSeg i ((s.seg i).endsWith r)).entry o.lt) =
          ⟨some { b with state := .active }, (s.entry o.lt).failCount + 1, (s.entry o.lt).refCount - 1⟩ := by
        simp [after, State.attemptEnded]
      obtain ⟨q, hq⟩ : ∃ q, q = (after .active).putSeg i ((s.seg i).endsWith r) := ⟨_, rfl⟩
      have unlisted : (q.seg b.segment).pendingList = [] := by
        rw [hq, hseg, State.seg_putSeg_self]
        exact work.1
      have isolated := isolates_none (s := q) (lt := o.lt) (b := { b with state := .active }) (by rw [hq, entry])
        (by rw [hq]; exact quiet) (by rw [unlisted]; exact fun j hj => absurd hj List.not_mem_nil)
      rw [if_pos (due.2 full), if_pos full, ← hq, isolated, holdTarget_still (by rw [hq]; exact survey), hq, entry]
      simp [after, State.isolated, State.attemptEnded]
    · rw [if_neg (mt due.1 full), if_neg full]
  · split
    · exact quiet
    · exact quiet

/-- R15: a PROBE that ends DONE on an ISOLATED entry, no survey entry of which is HELD. -/
theorem probeReinstates_done {q : State} {lt : LtId} (hb : (q.entry lt).binding = some b)
    (hr : r.outcome = .done) (isolated : b.state = .isolated) (quiet : q.noneQueued)
    (survey : ∀ n, q.svLt n = some lt → q.svRun n ≠ some .held) :
    probeReinstates lt .probe r q = if b.autoReinstate then
      (q.putEntry lt { q.entry lt with binding := some { b with state := .active }, failCount := 0 }).withNotice
        (.targetReinstated lt b.segment b.address) else q := by
  rw [probeReinstates, hb]
  dsimp only
  by_cases auto : b.autoReinstate = true
  · rw [if_pos ⟨rfl, hr, isolated, auto⟩, if_pos auto, postNotice_eq, reinstate, releaseTarget_stays]
    · exact examine_stay quiet rfl
    · intro n c b' hn hl _
      exact absurd (svRun_of hn) (survey n ((svLt_of hn).trans (congrArg some hl)))
  · rw [if_neg fun c => auto c.2.2.2, if_neg auto]

theorem probe_done (h : (s.seg i).state = .busy (opCurrent k o script)) (hc : s.carries k o c x)
    (hi : o.segment = i) (ended : verdict script t.bytes = .ended r) (hb : (s.entry o.lt).binding = some b)
    (hp : s.postingOpen) (quiet : s.noneQueued) (work : (s.seg i).noWork) (kind : o.kind = .probe)
    (hr : r.outcome = .done) (acked : r.addrAcked = true) (isolated : b.state = .isolated)
    (survey : ∀ n, s.svLt n = some o.lt → s.svRun n ≠ some .held) :
    let after (st : Bound) : State := s.attemptEnded k o c x
      ⟨some { b with state := st }, 0, (s.entry o.lt).refCount - 1⟩ .ok x.result r.bytesAcked
    exec (.transactionEnd i t ⟨true, true⟩) s = finish
      ((if b.autoReinstate then
        (after .active).withNotice (.targetReinstated o.lt b.segment b.address)
        else after .isolated).putSeg i { (s.seg i).sees ⟨true, true⟩ with state := .idle }) := by
  intro after
  obtain ⟨step, -⟩ := opCurrent_ends h ended
  have seen : (s.seg i).endsWith r = (s.seg i).sees ⟨true, true⟩ := endsWith_kept (by rw [hr]; decide)
  have counted : s.counted o.lt r = ⟨some b, 0, (s.entry o.lt).refCount⟩ := by
    rw [State.counted, (failCountAfter_spec r _).2.1 (by rw [hr]; decide) (by rw [hr]; decide) acked, hb]
  have undue : isolationDue o.lt r (s.putSeg i ((s.seg i).endsWith r)) = false :=
    isolationDue_not (s := s.putSeg i _) hb (.inl (by rw [isolated]; decide))
  obtain ⟨q, hq⟩ : ∃ q, q = s.mapTaken i o.lt r := ⟨_, rfl⟩
  have entry : q.entry o.lt = ⟨some b, 0, (s.entry o.lt).refCount⟩ := by rw [hq, mapTaken_entry, counted]
  have map : mapTakes (opCurrent k o script) r (s.putSeg i ((s.seg i).endsWith r)) =
      probeReinstates o.lt .probe r q := by
    rw [mapTakes, opCurrent]
    dsimp only
    rw [countOutcome_of (s := s.putSeg i _) hb, kind, hq]
    rfl
  have reinstated := probeReinstates_done (q := q) (lt := o.lt) (b := b) (by rw [entry]) hr isolated
    (by rw [hq]; exact quiet) (by rw [hq]; exact survey)
  have settled (u : State) (b' : Binding) (hu : u.carries k o c x) (hb' : (u.entry o.lt).binding = some b')
      (hd : b'.state ≠ .draining) (hp : u.postingOpen) (quiet : u.noneQueued)
      (unlisted : (u.seg o.segment).pendingList = []) :
      ownerTakes i (opCurrent k o script) r u =
        u.attemptEnded k o c x (u.unreferenced o.lt) .ok x.result r.bytesAcked := by
    rw [ownerTakes_host (k := k) (kind := o.kind) rfl rfl, settleHost_done hu hb' hd hp quiet unlisted _ hr,
      if_neg (by rw [kind]; decide)]
  have unlisted : (q.seg o.segment).pendingList = [] := by
    rw [hi, hq, mapTaken_seg]
    exact work.1
  rw [step, ← seen]
  by_cases auto : b.autoReinstate = true
  · rw [if_pos auto] at reinstated ⊢
    refine congrArg finish (endTransaction_for (cur := opCurrent k o script) rfl rfl ?_ quiet
      (endsWith_noWork work r) ⟨endsWith_clock _ _, endsWith_data _ _⟩ rfl)
    obtain ⟨u, hu⟩ : ∃ u, u = (q.putEntry o.lt { q.entry o.lt with
      binding := some { b with state := .active }, failCount := 0 }).withNotice
        (.targetReinstated o.lt b.segment b.address) := ⟨_, rfl⟩
    have bound : (u.entry o.lt).binding = some { b with state := .active } := by
      rw [hu]
      exact congrArg MapEntry.binding (State.entry_putEntry_self q o.lt _)
    rw [undue, if_neg Bool.false_ne_true, map, reinstated, ← hu,
      settled u _ (by rw [hu, hq]; exact hc) bound nofun (by rw [hu, hq]; exact hp) (by rw [hu, hq]; exact quiet)
        (by rw [hu]; exact unlisted), hu, hq]
    simp [after, State.attemptEnded, State.unreferenced, State.mapTaken, counted]
  · rw [if_neg auto] at reinstated ⊢
    refine congrArg finish (endTransaction_for (cur := opCurrent k o script) rfl rfl ?_ quiet
      (endsWith_noWork work r) ⟨endsWith_clock _ _, endsWith_data _ _⟩ rfl)
    rw [undue, if_neg Bool.false_ne_true, map, reinstated,
      settled q b (by rw [hq]; exact hc) (by rw [entry]) (by rw [isolated]; decide) (by rw [hq]; exact hp)
        (by rw [hq]; exact quiet) unlisted, hq]
    simp [after, State.attemptEnded, State.unreferenced, State.mapTaken, counted, ← isolated]

/-- R65, R67: the operation of a group request ends with others outstanding. -/
theorem settleHost_shared {grp : GroupId} (hk : s.slot k = some o) (hx : s.ctx o.context = some x)
    (more : 2 ≤ x.outstanding) (group : x.request.target = .group grp) (hb : (s.entry o.lt).binding = some b)
    (hd : b.state ≠ .draining) (quiet : s.noneQueued) (hl : (s.seg o.segment).pendingList = [])
    (other : r.outcome ≠ .aborted) (final : ¬ o.mayRetry x r) (stop : StopRequest) :
    settleHost k stop r s = ((s.putSlot k none).putEntry o.lt (s.unreferenced o.lt)).putCtx o.context (some
      { x with
        members := x.members.modify o.member fun m =>
          { m with outcome := some r.outcome, attempts := o.attempts, bytesAcked := r.bytesAcked }
        outstanding := x.outstanding - 1 }) := by
  obtain ⟨-, own, -⟩ := settleHost_of hk hx stop r
  obtain ⟨p, hp⟩ : ∃ p : OpSlot, p = { o with lastAcked := r.bytesAcked } := ⟨_, rfl⟩
  have no_data : takesResult x.request r.outcome = false := by
    simp [takesResult, Request.isGroup, group]
  have after : afterSlotEnd x p r.outcome r.data = { x with
      members := x.members.modify o.member fun m =>
        { m with outcome := some r.outcome, attempts := o.attempts, bytesAcked := r.bytesAcked }
      outstanding := x.outstanding - 1 } := by
    rw [afterSlotEnd, no_data, hp]
    rfl
  have outstanding : (afterSlotEnd x p r.outcome r.data).outstanding ≠ 0 := by
    rw [after]
    dsimp only
    omega
  have released := releaseRef_plain (s := (s.putSlot k (some p)).putSlot k none) (lt := o.lt) hb hd
  rw [own other final, ← hp, slotEnd, State.slot_putSlot_self]
  dsimp only
  rw [show p.segment = o.segment by rw [hp], show p.lt = o.lt by rw [hp],
    leavePending_nil (s := s.putSlot k (some p)) hl, if_neg (by exact hl ▸ List.not_mem_nil), released,
    accountSlotEnd, show p.context = o.context by rw [hp],
    show (((s.putSlot k (some p)).putSlot k none).putEntry o.lt _).ctx o.context = some x from hx]
  dsimp only
  rw [if_neg outstanding, after]
  rw [examine_stay quiet (by rfl)]
  simp [State.unreferenced]

end

/-- Settles O55: FAIL_COUNT, the last attempt and the PROBE, the group's operation, and isolation. -/
theorem failCountAndIsolation : Obligations.FailCountAndIsolation := by
  refine ⟨fun s lt r b hb => ⟨_, countOutcome_of hb r, failCountAfter_spec r _⟩,
    fun s i k o c x b script t r h hc hi ended hb hseg hp quiet work =>
      ⟨fun hr last active threshold survey few => ?_, fun kind hr acked isolated survey => ?_⟩,
    fun s i k o x grp b script t r h hk hx more group hi ended final hb active threshold quiet work => ?_,
    fun s lt b hb quiet => ⟨fun none_listed => ?_,
      fun k o c x hc hlt hi kind waits mem others nodup busy hp =>
        isolates_one hb quiet hc hlt hi kind waits mem others nodup busy hp⟩⟩
  · refine (lastAttempt_nack h hc hi ended hb hseg hp quiet work hr last active threshold survey few).trans
      (congrArg finish ?_)
    split <;> simp [State.attemptEnded]
  · refine (probe_done h hc hi ended hb hp quiet work kind hr acked isolated survey).trans (congrArg finish ?_)
    split <;> simp [State.attemptEnded]
  · obtain ⟨step, other⟩ := opCurrent_ends h ended
    have undue : isolationDue o.lt r (s.putSeg i ((s.seg i).endsWith r)) = false :=
      isolationDue_not (s := s.putSeg i _) hb (.inr (.inl threshold))
    have live : b.state ≠ .isolated := by rw [active]; decide
    obtain ⟨y, hy⟩ : ∃ y : Context, y = { x with
        members := x.members.modify o.member fun m =>
          { m with outcome := some r.outcome, attempts := o.attempts, bytesAcked := r.bytesAcked }
        outstanding := x.outstanding - 1 } := ⟨_, rfl⟩
    rw [← hy]
    refine step.trans (congrArg finish ((endTransaction_for (cur := opCurrent k o script) (lt := o.lt) rfl rfl
      (u := ((s.putSlot k none).putEntry o.lt { s.counted o.lt r with
        refCount := (s.entry o.lt).refCount - 1 }).putCtx o.context (some y)) (g := (s.seg i).endsWith r) ?_ quiet
      (endsWith_noWork work r) ⟨endsWith_clock _ _, endsWith_data _ _⟩ rfl).trans ?_))
    · rw [undue, if_neg Bool.false_ne_true, mapTakes_taken (cur := opCurrent k o script) rfl hb (.inr live),
        ownerTakes_host (k := k) (kind := o.kind) rfl rfl,
        settleHost_shared (s := s.mapTaken i o.lt r) (b := b) hk hx more group (by rw [mapTaken_entry]; exact hb)
          (by rw [active]; decide) quiet (by rw [hi, mapTaken_seg]; exact work.1) other final, ← hy]
      simp [State.mapTaken, State.unreferenced, State.counted]
    · rw [countOutcome_entry hb]
      rfl
  · obtain ⟨moved, -⟩ := holdTarget_kept (w := s.isolated lt b) (lt := lt) (b := { b with state := .isolated })
      (by rw [isolated_entry]) quiet
    exact ⟨_, moved, isolates_none hb quiet none_listed⟩

end Sys2Proof.Machine
end

section
/-! The end of an alert query (R169 to R171, TABLE 66): O57. -/

namespace Sys2Proof.Machine

/-! ### Notices posted one after another -/

@[simp] theorem withNotices_nil (s : State) : s.withNotices [] = s := rfl
@[simp] theorem withNotices_cons (s : State) (b : NoticeBody) (l : List NoticeBody) :
    s.withNotices (b :: l) = (s.withNotice b).withNotices l := rfl

@[simp] theorem seg_withNotices (l : List NoticeBody) (i : SegId) : ∀ s : State,
    (s.withNotices l).seg i = s.seg i := by
  induction l with
  | nil => exact fun s => rfl
  | cons b l ih => exact fun s => (ih _).trans (State.seg_withNotice s b i)

@[simp] theorem rq_withNotices (l : List NoticeBody) : ∀ s : State, (s.withNotices l).rq = s.rq := by
  induction l with
  | nil => exact fun s => rfl
  | cons b l ih => exact fun s => (ih _).trans (rq_withNotice s b)

theorem withNotices_putSeg (l : List NoticeBody) (i : SegId) (g : Segment) : ∀ s : State,
    (s.withNotices l).putSeg i g = (s.putSeg i g).withNotices l := by
  induction l with
  | nil => exact fun s => rfl
  | cons b l ih => exact fun s => (ih _).trans (by rw [State.putSeg_withNotice]; rfl)

/-! ### The collector (R170, R171) -/

/-- R170: the entry that holds the address, the addresses bound being distinct. -/
theorem reverseLookup_bound {s : State} {i : SegId} {a : BusAddr} {lt : LtId} {b : Binding} (law : AddressLaw s)
    (hb : (s.entry lt).binding = some b) (hi : b.segment = i) (ha : b.address = a) :
    reverseLookup s i a = some (lt, b.state) := by
  unfold reverseLookup
  cases hF : List.findSome? _ (List.finRange 64) with
  | none =>
    have := List.findSome?_eq_none_iff.1 hF lt (List.mem_finRange lt)
    simp [hb, hi, ha] at this
  | some p =>
    obtain ⟨m, -, hm⟩ := List.exists_of_findSome?_eq_some hF
    cases hbm : (s.entry m).binding with
    | none => simp [hbm] at hm
    | some b' =>
      simp only [hbm, Option.ite_none_right_eq_some, Option.some.injEq] at hm
      obtain ⟨⟨hi', ha'⟩, rfl⟩ := hm
      have same : m = lt := law.1 m lt b' b hbm hb (hi'.trans hi.symm) (ha'.trans ha.symm)
      subst same
      rw [Option.some.inj (hbm.symm.trans hb)]

theorem reverseLookup_none {s : State} {i : SegId} {a : BusAddr} (h : ¬ s.bound i a) :
    reverseLookup s i a = none := by
  refine List.findSome?_eq_none_iff.2 fun lt _ => ?_
  cases hb : (s.entry lt).binding with
  | none => rfl
  | some b => exact if_neg fun c => h ⟨lt, b, hb, c.1, c.2⟩

/-- R170: the upper seven bits of the response. -/
theorem response_address {v : Byte} {a : BusAddr} (h : a.toNat = v.toNat / 2) :
    BitVec.ofNat 7 (v.toNat / 2) = a := by
  apply BitVec.eq_of_toNat_eq
  rw [BitVec.toNat_ofNat, ← h, Nat.mod_eq_of_lt a.isLt]

/-- R170, R171: a query answered. -/
theorem alertDone_eq {s : State} {i : SegId} {v : Byte} {a : BusAddr} {y : AlertState}
    (ha : a.toNat = v.toNat / 2) (hy : (s.seg i).alert.answered y a) : alertDone i v s =
      (s.putSeg i { s.seg i with alert := y }).withNotices
        (alertNotice s i v :: if y.repeatCount = 8 then [.alertStuck i .repeated a] else []) := by
  obtain ⟨h1, h2, h3, h4⟩ := hy
  have after : alertAfterDone (s.seg i).alert a = { y with suspended := (s.seg i).alert.suspended } := by
    unfold alertAfterDone
    obtain ⟨l, rep, nack, sus⟩ := y
    dsimp only at h1 h2 h3 ⊢
    subst h1 h2 h3
    split
    · next again => simp [Config.alertRepeatLimit, again]
    · rfl
  rw [alertDone, response_address ha, postNotice_eq]
  simp only [State.seg_withNotice, after, putAlert, suspendAlert, Config.alertRepeatLimit]
  by_cases stuck : y.repeatCount = 8
  · have suspended : y = { y with suspended := true } := by
      rw [stuck] at h4
      rw [show true = y.suspended by rw [h4]; simp]
    rw [if_pos stuck, if_pos stuck, postNotice_eq, suspended]
    simp
  · have kept : y = { y with suspended := (s.seg i).alert.suspended } := by
      rw [show (s.seg i).alert.suspended = y.suspended by rw [h4, beq_false_of_ne stuck, Bool.or_false]]
    rw [if_neg stuck, if_neg stuck, ← kept]
    simp

/-- R171: a query without a response. -/
theorem alertMissed_eq {s : State} {i : SegId} {o : Outcome} {y : AlertState}
    (hy : (s.seg i).alert.missed y o) : alertMissed i o s =
      (s.putSeg i { s.seg i with alert := y }).withNotices
        (if y.nackCount = 3 then [.alertStuck i .noAck 0] else []) := by
  obtain ⟨h1, h2, h3, h4⟩ := hy
  have after : alertAfterMiss (s.seg i).alert o = { y with suspended := (s.seg i).alert.suspended } := by
    unfold alertAfterMiss
    obtain ⟨l, rep, nack, sus⟩ := y
    dsimp only at h1 h3 h4 ⊢
    by_cases missing : o = .addressNack
    · obtain ⟨rfl, rfl⟩ := h3 missing
      rw [if_pos missing, h1]
      rfl
    · obtain ⟨rfl, rfl⟩ := h4 missing
      rw [if_neg missing, h1]
      rfl
  rw [alertMissed]
  simp only [after, putAlert, suspendAlert, Config.alertNackLimit]
  by_cases stuck : y.nackCount = 3
  · have suspended : y = { y with suspended := true } := by
      rw [stuck] at h2
      rw [show true = y.suspended by rw [h2]; simp]
    rw [if_pos stuck, if_pos stuck, postNotice_eq, suspended]
    simp
  · have kept : y = { y with suspended := (s.seg i).alert.suspended } := by
      rw [show (s.seg i).alert.suspended = y.suspended by rw [h2, beq_false_of_ne stuck, Bool.or_false]]
    rw [if_neg stuck, if_neg stuck, ← kept]
    simp

/-! ### The end of the query -/

/-- R88: a transaction with no stop requested ends on a bus that is not free. -/
theorem transactionEnds_by {s : State} {i : SegId} {cur : Current} {t : BusTrace} {r : AttemptResult}
    (h : (s.seg i).state = .busy cur) (hr : cur.endsBy t r) (busy : (s.seg i).busFree = false) :
    transactionEnds i t ⟨true, true⟩ s =
      endTransaction i cur r (s.putSeg i ((s.seg i).sees ⟨true, true⟩)) := by
  obtain ⟨stop, ⟨phase, ended⟩ | phase⟩ := hr
  · obtain ⟨step, -⟩ := transactionEnds_own h (.inl ⟨phase, ended, .inl stop⟩)
    have seen : (s.seg i).endsWith r = (s.seg i).sees ⟨true, true⟩ := by
      have kept : ((s.seg i).sees ⟨true, true⟩).busFree = false := busy
      rw [Segment.endsWith, busy, ite_self, ← kept]
    rw [step, seen]
  · rw [transactionEnds, State.segState, h]
    dsimp only
    rw [phase]
    rfl

/-- R92, R94, R169: what an IDLE segment with an alert input alone grants. -/
def Segment.queried (g : Segment) : Segment :=
  if g.config.alertEnable ∧ g.alert.suspended = false ∧ g.alertLow then
    ({ g with consecHost := 0 } : Segment).granted .alert none
      [.addressRead g.config.alertAddress, .read false]
  else g

theorem opportunity_queried {s : State} {i : SegId} (idle : (s.seg i).state = .idle)
    (free : (s.seg i).linesFree) (quiet : s.noneQueued) (hl : (s.seg i).pendingList = [])
    (hd : (s.seg i).dueList = []) : opportunity i s = s.putSeg i (s.seg i).queried := by
  rw [opportunity_noneQueued i quiet, Segment.queried]
  by_cases called : (s.seg i).config.alertEnable ∧ (s.seg i).alert.suspended = false ∧ (s.seg i).alertLow
  · obtain ⟨h1, h2, h3⟩ := called
    rw [arbitrate_alert idle free h1 h2 h3, if_pos hd]
    exact congrArg (s.putSeg i) (if_pos ⟨h1, h2, h3⟩).symm
  · rw [if_neg called, State.putSeg_seg, arbitrate_nothing idle free (choose_noWork ⟨hl, hd, called⟩)]

/-- R88, R169: the end of an alert query whose collector becomes `y`, with the notices `l`. -/
theorem queryEnds {s : State} {i : SegId} {cur : Current} {t : BusTrace} {r : AttemptResult} {y : AlertState}
    {l : List NoticeBody} (h : (s.seg i).state = .busy cur) (hw : cur.work = .alert) (hl : cur.lt = none)
    (hr : cur.endsBy t r) (quiet : s.noneQueued) (hp : (s.seg i).pendingList = [])
    (hd : (s.seg i).dueList = []) (busy : (s.seg i).busFree = false)
    (taken : takeAlert i r (s.putSeg i ((s.seg i).sees ⟨true, true⟩)) =
      (s.putSeg i { (s.seg i).sees ⟨true, true⟩ with alert := y }).withNotices l) :
    exec (.transactionEnd i t ⟨true, true⟩) s = finish ((s.putSeg i
      ({ (s.seg i).sees ⟨true, true⟩ with state := .idle, alert := y } : Segment).queried).withNotices l) := by
  obtain ⟨g, hg⟩ : ∃ g : Segment, g = { (s.seg i).sees ⟨true, true⟩ with alert := y } := ⟨_, rfl⟩
  have clock : g.clockLine.high = true := by rw [hg]; exact sees_clock _ _
  have data : g.dataLine.high = true := by rw [hg]; exact sees_data _ _
  have still : ((s.putSeg i g).withNotices l).noneQueued := by
    unfold State.noneQueued
    rw [rq_withNotices]
    exact quiet
  have on : ((s.putSeg i g).withNotices l).seg i = g := by rw [seg_withNotices, State.seg_putSeg_self]
  have idle : ((s.putSeg i g).withNotices l).inState i .idle =
      (s.putSeg i { g with state := .idle }).withNotices l := by
    rw [State.inState, on, withNotices_putSeg, State.putSeg_putSeg]
  have on' : ((s.putSeg i { g with state := .idle }).withNotices l).seg i = { g with state := .idle } := by
    rw [seg_withNotices, State.seg_putSeg_self]
  refine congrArg finish ((transactionEnds_by h hr busy).trans ?_)
  rw [endTransaction_undue (fun lt e => nomatch hl.symm.trans e), mapTakes_none hl,
    ownerTakes_alert hw (by rw [hr.1]), taken, ← hg,
    afterTransaction_idle (by rw [hr.1]) still (by rw [on]; exact ⟨clock, data⟩), idle, opportunity_queried, on',
    withNotices_putSeg, State.putSeg_putSeg]
  · rw [hg]
  · rw [on']
  · rw [on']
    exact linesFree_of_high clock data
  · unfold State.noneQueued
    rw [rq_withNotices]
    exact quiet
  · rw [on', hg]
    exact hp
  · rw [on', hg]
    exact hd

/-- Settles O57: an answered query by the entry that holds its address, and a missed one. -/
theorem alertQueryEnds : Obligations.AlertQueryEnds := by
  intro s i cur t r y h hw hl hr quiet hp hd busy
  have on : (s.putSeg i ((s.seg i).sees ⟨true, true⟩)).seg i = (s.seg i).sees ⟨true, true⟩ :=
    State.seg_putSeg_self _ _ _
  refine ⟨fun v a done response ha answered l hl' => ?_, fun other kept missed => ?_⟩
  · have taken : takeAlert i r (s.putSeg i ((s.seg i).sees ⟨true, true⟩)) =
        (s.putSeg i { (s.seg i).sees ⟨true, true⟩ with alert := y }).withNotices
          (alertNotice (s.putSeg i ((s.seg i).sees ⟨true, true⟩)) i v :: l) := by
      rw [takeAlert, if_pos done, response, List.headD_cons, alertDone_eq ha (by rw [on]; exact answered), on, hl',
        State.putSeg_putSeg]
    have ends := queryEnds h hw hl hr quiet hp hd busy taken
    refine ⟨fun lt b law hb hi hba => ends.trans ?_, fun unbound => ends.trans ?_⟩
    · have lookup : reverseLookup (s.putSeg i ((s.seg i).sees ⟨true, true⟩)) i a = some (lt, b.state) :=
        reverseLookup_bound (s := s) law hb hi hba
      rw [alertNotice, response_address ha, lookup]
      rfl
    · have lookup : reverseLookup (s.putSeg i ((s.seg i).sees ⟨true, true⟩)) i a = none :=
        reverseLookup_none (s := s) unbound
      rw [alertNotice, response_address ha, lookup]
      rfl
  · refine queryEnds h hw hl hr quiet hp hd busy ?_
    rw [takeAlert, if_neg other, if_neg kept, alertMissed_eq (by rw [on]; exact missed), on, State.putSeg_putSeg]

end Sys2Proof.Machine
end

section
/-! SEGMENT_DISABLE (R89 to R91, R127, R128, TABLE 50): O38. -/

namespace Sys2Proof.Machine

/-- R128: what the disable of a segment leaves, whatever its state before. -/
theorem completeDisable_of {u : State} {i : SegId} (hl : (u.seg i).pendingList = []) (quiet : u.noneQueued)
    (st : SegState) : u.disables i (completeDisable i (u.inState i st)) := by
  rw [completeDisable_inState]
  exact completeDisable_disables hl quiet

/-- R89, R127: a transaction in WAIT_FREE ends with the disable, `u` being what its owner leaves. -/
theorem waitFree_disables {s u : State} {i : SegId} {cur : Current} {r : AttemptResult} {st : SegState}
    (undue : ∀ lt, cur.lt = some lt → isolationDue lt r s = false) (disable : cur.stop.disable = true)
    (taken : ownerTakes i cur r (mapTakes cur r s) = u.inState i st) (quiet : u.noneQueued)
    (hl : (u.seg i).pendingList = []) : u.disables i (endTransaction i cur r s) := by
  have disabled := completeDisable_of hl quiet st
  rw [endTransaction_undue undue, taken, afterTransaction, if_pos disable, opportunity_notIdle disabled.notIdle]
  exact disabled

/-- R10: a transaction ended with nothing driven leaves FAIL_COUNT. -/
theorem mapTakes_nothingDriven {s : State} {cur : Current} {o : Outcome} (ho : o.targetFailure = false)
    (hd : o ≠ .done) (bound : ∀ lt, cur.lt = some lt → ∃ b, (s.entry lt).binding = some b) :
    mapTakes cur (nothingDriven o) s = s := by
  cases hl : cur.lt with
  | none => exact mapTakes_none hl _ s
  | some lt =>
    obtain ⟨b, hb⟩ := bound lt hl
    have same : failCountAfter (nothingDriven o) (s.entry lt).failCount = (s.entry lt).failCount := by
      simp [failCountAfter, nothingDriven, ho]
    rw [mapTakes_counts hl hb (.inl hd), same]
    exact State.putEntry_entry s lt

theorem putSegState_eq (s : State) (i : SegId) (st : SegState) : s.putSegState i st = s.inState i st := rfl

section
variable {s : State} {i : SegId}

theorem disableSegment_disabled (h : (s.seg i).state = .disabled) : disableSegment i s = s := by
  rw [disableSegment, State.segState, h]

theorem disableSegment_carries {c : Current} (h : (s.seg i).state = .busy c) (hc : c.phase ≠ .waitFree) :
    disableSegment i s = s.inState i (.busy { c with stop := { c.stop with disable := true } }) := by
  obtain ⟨work, lt, script, phase, stop⟩ := c
  rw [disableSegment, State.segState, h]
  dsimp only
  cases phase with
  | waitFree => exact absurd rfl hc
  | transfer | stopping _ => exact putSegState_eq s i _

theorem disableSegment_waits {c : Current} (h : (s.seg i).state = .busy c) (hc : c.phase = .waitFree) :
    disableSegment i s = endTransaction i { c with stop := { c.stop with disable := true } }
      (nothingDriven .aborted)
      (s.inState i (.busy { c with stop := { c.stop with disable := true } })) := by
  rw [disableSegment, State.segState, h]
  dsimp only
  rw [hc]
  dsimp only
  rw [putSegState_eq, addDisable, hc]

theorem disableSegment_other (h1 : (s.seg i).state ≠ .disabled) (h2 : ∀ c, (s.seg i).state ≠ .busy c) :
    disableSegment i s = completeDisable i s := by
  rw [disableSegment, State.segState]
  cases h : (s.seg i).state with
  | disabled => exact absurd h h1
  | busy c => exact absurd h (h2 c)
  | idle | faulted _ | recovering _ => rfl

/-- R127, R128: with one waiting operation listed. -/
theorem completeDisable_ends {k : SlotId} {o : OpSlot} {c : CtxId} {x : Context} {b : Binding}
    (hl : (s.seg i).pendingList = [k]) (h : s.carries k o c x) (hi : o.segment = i)
    (waits : ∀ m, o.state ≠ .active m) (hb : (s.entry o.lt).binding = some b) (hd : b.state ≠ .draining)
    (hp : s.postingOpen) (quiet : s.noneQueued) :
    (s.opEnded k o c x .segmentDisabled).disables i (completeDisable i s) := by
  subst hi
  have unlisted : ((s.opEnded k o c x .segmentDisabled).seg o.segment).pendingList = [] := by
    simp [State.opEnded, hl]
  rw [completeDisable_one h waits hb hd hp quiet hl]
  exact completeDisable_disables unlisted quiet

/-- R89, R127: the waits for a free bus that a disable ends, by their owner. -/
theorem disableSegment_waitFree {cur : Current} (h : (s.seg i).state = .busy cur) (phase : cur.phase = .waitFree)
    (stop : cur.stop = ⟨false, false, false⟩) (hl : (s.seg i).pendingList = []) (quiet : s.noneQueued) :
    (cur.work = .alert → cur.lt = none → s.disables i (disableSegment i s)) ∧
    (∀ n lt b, cur.work = .survey n → cur.lt = some lt → (s.entry lt).binding = some b →
      b.state ≠ .draining ∨ (s.entry lt).refCount ≠ 1 →
      (s.putEntry lt (s.unreferenced lt)).disables i (disableSegment i s)) ∧
    ∀ k o c x b, cur.work = .host k o.kind → cur.lt = some o.lt → s.carries k o c x → o.segment = i →
      (s.entry o.lt).binding = some b → b.state ≠ .draining → s.postingOpen →
      (s.attemptEnded k o c x (s.unreferenced o.lt) (.of .segmentDisabled) x.result 0).disables i
        (disableSegment i s) := by
  obtain ⟨cur', hcur⟩ : ∃ c : Current, c = { cur with stop := { cur.stop with disable := true } } := ⟨_, rfl⟩
  have disable : cur'.stop.disable = true := by rw [hcur]
  have reset : cur'.stop.reset = false := by rw [hcur, stop]
  have hw : cur'.work = cur.work := by rw [hcur]
  have hlt : cur'.lt = cur.lt := by rw [hcur]
  obtain ⟨q, hq⟩ : ∃ q, q = s.inState i (.busy cur') := ⟨_, rfl⟩
  have unlisted : (q.seg i).pendingList = [] := by rw [hq, noWork_inState]; exact hl
  have still : q.noneQueued := by rw [hq]; exact quiet
  have undue (lt : LtId) (b : Binding) (hb : (s.entry lt).binding = some b) :
      isolationDue lt (nothingDriven .aborted) q = false :=
    isolationDue_not (b := b) (by rw [hq]; exact hb) (.inr (.inr rfl))
  rw [disableSegment_waits h phase, ← hcur, ← hq]
  refine ⟨fun alert none_named => waitFree_disables (st := .busy cur') (fun lt e => ?_) disable ?_ quiet hl,
    fun n lt b survey named hb ref => waitFree_disables (st := .busy cur') (fun lt' e => ?_) disable ?_ quiet hl,
    fun k o c x b host named hc hi hb hd hp =>
      waitFree_disables (st := .busy cur') (fun lt' e => ?_) disable ?_ quiet hl⟩
  · exact nomatch (hlt.symm.trans e).symm.trans none_named
  · rw [mapTakes_none (hlt.trans none_named), ownerTakes_dropped rfl (hlt.trans none_named)
      (.inr (hw.trans alert)), hq]
  · exact undue lt' b (Option.some.inj ((hlt.symm.trans e).symm.trans named) ▸ hb)
  · rw [mapTakes_nothingDriven rfl (by decide) fun lt' e =>
        ⟨b, by rw [hq, Option.some.inj ((hlt.symm.trans e).symm.trans named)]; exact hb⟩,
      ownerTakes_releases (b := b) rfl (hlt.trans named) (by rw [hq]; exact hb) (by rw [hq]; exact ref) still
        (.inr ⟨n, hw.trans survey⟩), hq]
    simp [State.inState, State.unreferenced]
  · exact undue lt' b (Option.some.inj ((hlt.symm.trans e).symm.trans named) ▸ hb)
  · rw [mapTakes_nothingDriven rfl (by decide) fun lt' e =>
        ⟨b, by rw [hq, Option.some.inj ((hlt.symm.trans e).symm.trans named)]; exact hb⟩,
      ownerTakes_host (hw.trans host) reset, settleHost_aborted (s := q) (b := b) (by rw [hq]; exact hc)
        (by rw [hq]; exact hb) hd (by rw [hq]; exact hp) still (by rw [hi]; exact unlisted)
        (by rw [hcur, stop]; exact nofun) rfl, hq, hcur, stop]
    simp [State.inState, State.unreferenced, State.attemptEnded, nothingDriven]

end

theorem segmentDisable_of {s : State} {i : SegId} (h : (s.arg 0).toNat = i.val) :
    segmentDisable s = (disableSegment i s).answered .done := by
  rw [segmentDisable, argSeg_of h]
  rfl

/-- Settles O38: by the state of the segment. -/
theorem segmentDisableByState : Obligations.SegmentDisableByState := by
  intro s rest h
  have at_hand : exec .segmentDisable s = finish (segmentDisable (s.leaving rest)) :=
    congrArg finish (takeCommand_at (codeIs 0x09) segmentDisable h rfl)
  refine ⟨fun bad => at_hand.trans (congrArg finish ?_), fun i hi => ?_⟩
  · rw [segmentDisable, argSeg_none (s := s.leaving rest) bad]
    rfl
  · have done : exec .segmentDisable s = finish ((disableSegment i (s.leaving rest)).answered .done) :=
      at_hand.trans (congrArg finish (segmentDisable_of (s := s.leaving rest) hi))
    have off {t : State} (ht : t.disables i (disableSegment i (s.leaving rest))) :
        ∃ v, t.disables i v ∧ exec .segmentDisable s = finish (v.answered .done) := ⟨_, ht, done⟩
    refine ⟨fun disabled => ?_, fun c busy hc => ?_, fun h1 h2 quiet => ⟨fun hl => off ?_,
      fun k o c x b hl hc hseg waits hb hd hp => off ?_⟩, fun cur busy phase stop hl quiet => ?_⟩
    · rw [done, disableSegment_disabled (s := s.leaving rest) disabled]
    · rw [done, disableSegment_carries (s := s.leaving rest) busy hc]
    · rw [disableSegment_other (s := s.leaving rest) h1 h2]
      exact completeDisable_disables hl quiet
    · rw [disableSegment_other (s := s.leaving rest) h1 h2]
      exact completeDisable_ends (s := s.leaving rest) hl hc hseg waits hb hd hp quiet
    · obtain ⟨alert, survey, host⟩ := disableSegment_waitFree (s := s.leaving rest) busy phase stop hl quiet
      exact ⟨fun h1 h2 => off (alert h1 h2), fun n lt b h1 h2 hb ref => off (survey n lt b h1 h2 hb ref),
        fun k o c x b h1 h2 hc hseg hb hd hp => off (host k o c x b h1 h2 hc hseg hb hd hp)⟩

end Sys2Proof.Machine
end

section
/-! CANCEL (R89, R114 to R116, TABLE 47): O43. -/

namespace Sys2Proof.Machine

/-! ### What holds the tag (R31, R114) -/

/-- R31: with the tags distinct a tag finds its entry. -/
theorem TagLaw.entryOf {s : State} (law : TagLaw s) {e : RqEntry} (he : e ∈ s.rq) :
    entryOf? s e.request.tag = some e := by
  cases found : entryOf? s e.request.tag with
  | none => exact absurd (List.find?_eq_none.1 found e he) (by simp)
  | some x =>
    have tag : x.request.tag = e.request.tag := by simpa using List.find?_some found
    rw [law.entry_unique he (List.mem_of_find?_eq_some found) tag]

theorem entryOf_none {s : State} {tag : Byte} (h : ∀ e ∈ s.rq, e.request.tag ≠ tag) : entryOf? s tag = none :=
  List.find?_eq_none.2 fun e he => by simpa using h e he

theorem contextOf_none {s : State} {tag : Byte} (h : ∀ c x, s.ctx c = some x → x.request.tag ≠ tag) :
    contextOf? s tag = none := by
  refine List.findSome?_eq_none_iff.2 fun c _ => ?_
  cases hx : s.ctx c with
  | none => rfl
  | some x => exact if_neg (h c x hx)

/-- R31: with the tags distinct two contexts carry different tags. -/
theorem TagLaw.context_unique {s : State} (law : TagLaw s) {c d : CtxId} {x y : Context}
    (hx : s.ctx c = some x) (hy : s.ctx d = some y) (tag : x.request.tag = y.request.tag) : c = d := by
  have nodup := (List.nodup_append.1 law).2.1
  rw [toList_eq_map_look, List.filterMap_map, List.Nodup, List.pairwise_filterMap] at nodup
  by_contra apart
  have sym : Std.Symm fun a b : CtxId => ∀ t ∈ (Option.map (·.request.tag) ∘ look s.contexts) a,
      ∀ t' ∈ (Option.map (·.request.tag) ∘ look s.contexts) b, t ≠ t' :=
    ⟨fun a b h t ht t' ht' => (h t' ht' t ht).symm⟩
  exact nodup.forall (List.mem_finRange c) (List.mem_finRange d) apart _
    (congrArg (Option.map fun z : Context => z.request.tag) hx) _
    (congrArg (Option.map fun z : Context => z.request.tag) hy) tag

theorem TagLaw.contextOf {s : State} (law : TagLaw s) {c : CtxId} {x : Context} (hx : s.ctx c = some x) :
    contextOf? s x.request.tag = some (c, x) := by
  cases found : contextOf? s x.request.tag with
  | none =>
    have := List.findSome?_eq_none_iff.1 found c (List.mem_finRange c)
    simp [hx] at this
  | some p =>
    obtain ⟨d, y⟩ := p
    have hy := contextOf_ctx found
    have tag : y.request.tag = x.request.tag := by
      obtain ⟨d', -, hd⟩ := List.exists_of_findSome?_eq_some found
      split at hd
      · split at hd
        · next e => cases hd; exact e
        · cases hd
      · cases hd
    have same := law.context_unique hx hy tag.symm
    subst same
    rw [Option.some.inj (hx.symm.trans hy)]

/-- R31: a tag that a context carries is in no RQ entry. -/
theorem TagLaw.apart {s : State} (law : TagLaw s) {c : CtxId} {x : Context} (hx : s.ctx c = some x) :
    ∀ e ∈ s.rq, e.request.tag ≠ x.request.tag := by
  intro e he tag
  refine (List.nodup_append.1 law).2.2 _ (List.mem_map_of_mem he) x.request.tag ?_ tag
  rw [toList_eq_map_look, List.mem_filterMap]
  exact ⟨some x, List.mem_map.2 ⟨c, List.mem_finRange c, hx⟩, rfl⟩

/-! ### The transactions that wait for a free bus (R89) -/

/-- One step among the segments does something, and none does anything before or after it. -/
theorem foldl_once {α : Type} [DecidableEq α] {f : α → State → State} {s t : State} {a : α}
    (hs : ∀ b, b ≠ a → f b s = s) (ha : f a s = t) (ht : ∀ b, b ≠ a → f b t = t) :
    ∀ l : List α, a ∈ l → l.Nodup → l.foldl (fun u b => f b u) s = t
  | [], h, _ => absurd h List.not_mem_nil
  | b :: l, h, nodup => by
    obtain ⟨out, nodup⟩ := List.nodup_cons.1 nodup
    rw [List.foldl_cons]
    by_cases e : b = a
    · rw [e, ha]
      exact foldl_still f t l fun d hd => ht d fun c => out (e ▸ c ▸ hd)
    · rw [hs b e]
      exact foldl_once hs ha ht l ((List.mem_cons.1 h).resolve_left fun c => e c.symm) nodup

theorem endIfWaiting_still {s : State} {i : SegId}
    (h : ∀ w, (s.seg i).state = .busy w → w.phase = .waitFree → w.stop.cancel = false) :
    endIfWaiting i s = s := by
  rw [endIfWaiting, State.segState]
  cases hs : (s.seg i).state with
  | busy w =>
    dsimp only
    split
    · next hp => exact if_neg (by rw [h w hs hp]; decide)
    · rfl
  | _ => rfl

theorem endMarkedWaiting_still {s : State}
    (h : ∀ i w, (s.seg i).state = .busy w → w.phase = .waitFree → w.stop.cancel = false) :
    endMarkedWaiting s = s :=
  foldl_still (fun i t => endIfWaiting i t) s _ fun i _ => endIfWaiting_still (h i)

/-! ### A RUNNING context (R116) -/

theorem cancelContext_of {s : State} {tag : Byte} {c : CtxId} {x : Context}
    (h : contextOf? s tag = some (c, x)) : cancelContext tag s =
      if x.finish.isSome then s.answered .tooLate else if x.cancelRequested then s.answered .accepted
      else (cancelRunning c x s).answered .accepted := by
  rw [cancelContext, h]
  rfl

section
variable {s : State} {k : SlotId} {o : OpSlot} {c : CtxId} {x : Context}

/-- R116: the context with its withdrawal noted. -/
def State.withdrawn (s : State) (c : CtxId) (x : Context) : State :=
  s.putCtx c (some { x with cancelRequested := true })

theorem withdrawn_carries (h : s.carries k o c x) :
    (s.withdrawn c x).carries k o c { x with cancelRequested := true } :=
  h.putCtx rfl rfl rfl rfl rfl

theorem cancelRunning_of (h : s.carries k o c x)
    (only : ∀ j p, s.slot j = some p → p.context = c → j = k) :
    cancelRunning c x s = endMarkedWaiting (withdrawSlot k (s.withdrawn c x)) := by
  have slots := slotsOf_carries (withdrawn_carries h) only
  change endMarkedWaiting (withdrawSlots (slotsOf c (s.withdrawn c x)) (s.withdrawn c x)) = _
  rw [slots, withdrawSlots, withdrawSlots]

/-- R116 step 2: an operation on the bus is marked. -/
theorem withdrawSlot_busy {cur : Current} (h : s.slot k = some o) (active : o.state = .active false)
    (busy : (s.seg o.segment).state = .busy cur) : withdrawSlot k s =
      (s.putSlot k (some { o with state := .active true })).inState o.segment
        (.busy { cur with stop := { cur.stop with cancel := true } }) := by
  rw [withdrawSlot, h]
  dsimp only
  rw [active]
  dsimp only
  have on : (s.putSlot k (some { o with state := .active true })).segState o.segment = .busy cur := busy
  rw [markSlot, on]
  rfl

theorem withdrawSlot_waiting (h : s.slot k = some o) (waits : ∀ m, o.state ≠ .active m) :
    withdrawSlot k s = slotEnd k .cancelled [] s := by
  rw [withdrawSlot, h]
  dsimp only
  cases hs : o.state with
  | active m => exact absurd hs (waits m)
  | pending | backoff _ _ => rfl

theorem cancelRunning_busy {cur : Current} (h : s.carries k o c x)
    (only : ∀ j p, s.slot j = some p → p.context = c → j = k) (active : o.state = .active false)
    (busy : (s.seg o.segment).state = .busy cur) (phase : cur.phase ≠ .waitFree)
    (others : ∀ i w, i ≠ o.segment → (s.seg i).state = .busy w → w.phase = .waitFree → w.stop.cancel = false) :
    cancelRunning c x s = ((s.withdrawn c x).putSlot k (some { o with state := .active true })).inState
      o.segment (.busy { cur with stop := { cur.stop with cancel := true } }) := by
  rw [cancelRunning_of h only, withdrawSlot_busy (s := s.withdrawn c x) h.1 active busy]
  refine endMarkedWaiting_still fun i w hw hp => ?_
  by_cases e : i = o.segment
  · subst e
    rw [noWork_inState] at hw
    cases hw
    exact absurd hp phase
  · rw [State.inState, State.seg_putSeg, if_neg fun d => e d.symm] at hw
    exact others i w e hw hp

/-- R89, R116: an operation whose transaction waits for a free bus ends with the withdrawal. -/
theorem cancelRunning_waitFree {script : List BusItem} {b : Binding} (h : s.carries k o c x)
    (only : ∀ j p, s.slot j = some p → p.context = c → j = k) (active : o.state = .active false)
    (busy : (s.seg o.segment).state =
      .busy ⟨.host k o.kind, some o.lt, script, .waitFree, ⟨false, false, false⟩⟩)
    (others : ∀ i w, i ≠ o.segment → (s.seg i).state = .busy w → w.phase = .waitFree → w.stop.cancel = false)
    (hb : (s.entry o.lt).binding = some b) (hd : b.state ≠ .draining) (work : (s.seg o.segment).noWork)
    (free : (s.seg o.segment).linesFree) (hp : s.postingOpen) (quiet : s.noneQueued) :
    cancelRunning c x s = (s.attemptEnded k o c x (s.unreferenced o.lt) (.of .cancelled) x.result 0).inState
      o.segment .idle := by
  obtain ⟨cur, hcur⟩ : ∃ cur : Current, cur = ⟨.host k o.kind, some o.lt, script, .waitFree, ⟨true, false, false⟩⟩ :=
    ⟨_, rfl⟩
  obtain ⟨p, hpo⟩ : ∃ p : OpSlot, p = { o with state := .active true } := ⟨_, rfl⟩
  obtain ⟨q, hq⟩ : ∃ q, q = ((s.withdrawn c x).putSlot k (some p)).inState o.segment (.busy cur) := ⟨_, rfl⟩
  have marked : withdrawSlot k (s.withdrawn c x) = q := by
    rw [withdrawSlot_busy (s := s.withdrawn c x) h.1 active busy, hq, hcur, hpo]
  have on : q.seg o.segment = { s.seg o.segment with state := .busy cur } := by
    rw [hq, noWork_inState]
    rfl
  have elsewhere (i : SegId) (hi : i ≠ o.segment) : q.seg i = s.seg i := by
    rw [hq, State.inState, State.seg_putSeg, if_neg fun d => hi d.symm]
    rfl
  have carried : q.carries k p c { x with cancelRequested := true } := by
    obtain ⟨-, hx, rest⟩ := withdrawn_carries h
    rw [hq, hpo]
    exact ⟨State.slot_putSlot_self (s.withdrawn c x) k _, hx, rest⟩
  have bound : (q.entry p.lt).binding = some b := by rw [hq, hpo]; exact hb
  have still : q.noneQueued := by rw [hq]; exact quiet
  have ended : endTransaction o.segment cur (nothingDriven .aborted) q =
      (s.attemptEnded k o c x (s.unreferenced o.lt) (.of .cancelled) x.result 0).inState o.segment .idle := by
    have settled := settleHost_aborted (s := q) (r := nothingDriven .aborted) (stop := ⟨true, false, false⟩)
      carried bound hd (by rw [hq]; exact hp) still
      (by rw [show p.segment = o.segment by rw [hpo], on]; exact work.1) (fun _ => rfl) rfl
    have unstopped : q.attemptEnded k p c { x with cancelRequested := true } (q.unreferenced p.lt)
        (.of (if true = true then .cancelled else .segmentDisabled)) x.result 0 =
        (s.attemptEnded k o c x (s.unreferenced o.lt) (.of .cancelled) x.result 0).inState o.segment
          (.busy cur) := by
      rw [hq, hpo]
      simp [State.attemptEnded, State.withdrawn, State.inState, State.unreferenced]
    obtain ⟨w, hw⟩ : ∃ w, w = s.attemptEnded k o c x (s.unreferenced o.lt) (.of .cancelled) x.result 0 :=
      ⟨_, rfl⟩
    have seg : w.seg o.segment = s.seg o.segment := by
      rw [hw]
      rfl
    rw [endTransaction_undue (fun lt e => by
        rw [hcur] at e; cases e
        exact isolationDue_not (b := b) (by rw [hq]; exact hb) (.inr (.inr rfl))),
      mapTakes_nothingDriven rfl (by decide) (fun lt e => by
        rw [hcur] at e; cases e
        exact ⟨b, by rw [hq]; exact hb⟩),
      ownerTakes_host (k := k) (kind := o.kind) (by rw [hcur]) (by rw [hcur]),
      show cur.stop = ⟨true, false, false⟩ by rw [hcur], settled]
    refine (congrArg (fun u => opportunity o.segment (afterTransaction o.segment cur (nothingDriven .aborted) u))
      unstopped).trans ?_
    have idle : (w.inState o.segment (.busy cur)).putSegState o.segment .idle = w.inState o.segment .idle := by
      simp [State.inState, State.putSegState]
    rw [← hw, afterTransaction, show cur.stop = ⟨true, false, false⟩ by rw [hcur], if_neg Bool.false_ne_true,
      if_neg (by simp [nothingDriven]), idle, examine_stay quiet (by rw [hw]; rfl)]
    refine opportunity_noWork ?_ ?_
    · rw [noWork_inState, seg]
      exact free
    · rw [noWork_inState, seg]
      exact work
  rw [cancelRunning_of h only, marked]
  refine foldl_once (f := endIfWaiting) (a := o.segment) (fun i hi => endIfWaiting_still fun w hw hp => ?_) ?_
    (fun i hi => endIfWaiting_still fun w hw hp => ?_) _ (List.mem_finRange _) (List.nodup_finRange _)
  · rw [elsewhere i hi] at hw
    exact others i w hi hw hp
  · rw [endIfWaiting, State.segState, on, hcur]
    dsimp only
    rw [if_pos rfl, ← hcur]
    exact ended
  · rw [State.inState, State.seg_putSeg, if_neg fun d => hi d.symm] at hw
    exact others i w hi hw hp

theorem cancelRunning_waiting {b : Binding} (h : s.carries k o c x)
    (only : ∀ j p, s.slot j = some p → p.context = c → j = k) (waits : ∀ m, o.state ≠ .active m)
    (hb : (s.entry o.lt).binding = some b) (hd : b.state ≠ .draining)
    (busy : (s.seg o.segment).state ≠ .idle) (hp : s.postingOpen) (quiet : s.noneQueued)
    (others : ∀ i w, (s.seg i).state = .busy w → w.phase = .waitFree → w.stop.cancel = false) :
    cancelRunning c x s = s.opEnded k o c x .cancelled := by
  have ended : withdrawSlot k (s.withdrawn c x) = s.opEnded k o c x .cancelled :=
    (withdrawSlot_waiting (s := s.withdrawn c x) h.1 waits).trans
      ((slotEnd_carries (s := s.withdrawn c x) (withdrawn_carries h) (by decide) (by decide) hb hd hp quiet
        fun _ => busy).trans (State.opEnded_putCtx _ rfl rfl))
  rw [cancelRunning_of h only, ended]
  refine endMarkedWaiting_still fun i w hw hph => ?_
  by_cases e : i = o.segment
  · subst e
    simp [State.opEnded] at hw
    exact others _ w hw hph
  · have apart : ¬ o.segment = i := fun d => e d.symm
    simp [State.opEnded, State.seg_putSeg, apart] at hw
    exact others i w hw hph

end

/-- Settles O43: by what holds the tag. -/
theorem cancelByHolder : Obligations.CancelByHolder := by
  intro s rest h law
  have at_hand : exec .cancel s = finish (cancel (s.leaving rest)) :=
    congrArg finish (takeCommand_at (codeIs 0x10) cancel h rfl)
  refine ⟨fun no_entry no_context => at_hand.trans (congrArg finish ?_), fun e he tag => ?_, fun c x hx tag => ?_⟩
  · have h1 : entryOf? (s.leaving rest) ((s.leaving rest).arg 0) = none := entryOf_none no_entry
    have h2 : contextOf? (s.leaving rest) ((s.leaving rest).arg 0) = none := contextOf_none no_context
    rw [cancel, h1]
    dsimp only
    rw [cancelContext, h2]
    rfl
  · have found : entryOf? (s.leaving rest) ((s.leaving rest).arg 0) = some e := by
      rw [leaving_arg, ← tag]
      exact law.entryOf he
    have cancelled : cancel (s.leaving rest) = if e.queued then
        (cancelQueued e.request (s.leaving rest)).answered .done else (s.leaving rest).answered .tooLate := by
      rw [cancel, found]
      rfl
    refine ⟨fun hf => at_hand.trans (congrArg finish (cancelled.trans (if_neg ?_))),
      fun hf => at_hand.trans (congrArg finish (cancelled.trans ((if_pos ?_).trans ?_)))⟩
    · cases hq : e.finish with
      | none => exact absurd hq hf
      | some f => simp [RqEntry.queued, hq]
    · simp [RqEntry.queued, hf]
    · rw [cancelQueued, tag]
      rfl
  · have no_entry : entryOf? (s.leaving rest) ((s.leaving rest).arg 0) = none := by
      rw [leaving_arg, ← tag]
      exact entryOf_none (s := s.leaving rest) (law.apart hx)
    have found : contextOf? (s.leaving rest) ((s.leaving rest).arg 0) = some (c, x) := by
      rw [leaving_arg, ← tag]
      exact law.contextOf hx
    have step : exec .cancel s = finish (if x.finish.isSome then (s.leaving rest).answered .tooLate
        else if x.cancelRequested then (s.leaving rest).answered .accepted
        else (cancelRunning c x (s.leaving rest)).answered .accepted) := by
      refine at_hand.trans (congrArg finish ?_)
      rw [cancel, no_entry]
      exact cancelContext_of found
    have running (hf : x.finish = none) (hc : x.cancelRequested = false) {t : State}
        (ht : cancelRunning c x (s.leaving rest) = t) : exec .cancel s = finish (t.answered .accepted) := by
      rw [step, hf, hc, ht]
      rfl
    refine ⟨fun hf => ?_, fun hf hc => ?_, fun hf hc k o carried only => ⟨fun cur active busy phase others =>
      running hf hc (cancelRunning_busy (s := s.leaving rest) carried only active busy phase others),
      fun script b active busy others hb hd work free hp quiet => running hf hc
        (cancelRunning_waitFree (s := s.leaving rest) carried only active busy others hb hd work free hp quiet),
      fun b waits hb hd busy hp quiet others => running hf hc
        (cancelRunning_waiting (s := s.leaving rest) carried only waits hb hd busy hp quiet others)⟩⟩
    · rw [step, if_pos (Option.isSome_iff_ne_none.2 hf)]
    · rw [step, hf, hc]
      rfl

end Sys2Proof.Machine
end

section
/-! How a recovery succeeds and how it fails (R119, R121 to R123): O60. -/

namespace Sys2Proof.Machine

/-! ### The procedure over what is seen (R121) -/

/-- The data line found low. -/
def stuckLines (n : Nat) : List Lines := List.replicate n ⟨true, false⟩

/-- R121 step 3: pulses that do not free the data line, short of the limit. -/
theorem recoveryFrom_pulses : ∀ (n m : Nat) (rest : List Lines), m + n < 16 →
    recoveryFrom .pulse m (stuckLines n ++ rest) = recoveryFrom .pulse (m + n) rest
  | 0, _, _, _ => rfl
  | n + 1, m, rest, h => by
    have short : m + 1 ≠ 16 := by omega
    have ih := recoveryFrom_pulses n (m + 1) rest (by omega)
    rw [Nat.add_right_comm, Nat.add_assoc] at ih
    rw [stuckLines, List.replicate_succ, List.cons_append, ← ih]
    simp [recoveryFrom, Config.recoveryPulseLimit, short, stuckLines]

/-- R121 steps 1 to 3: the clock line goes high, and `n` pulses do not free the data line. -/
theorem recoveryEnd_stuck {n : Nat} (h : n < 16) (rest : List Lines) :
    recoveryEnd (stuckLines (n + 1) ++ rest) = recoveryFrom .pulse n rest := by
  have pulses := recoveryFrom_pulses n 0 rest (by omega)
  rw [Nat.zero_add] at pulses
  rw [recoveryEnd, stuckLines, List.replicate_succ, List.cons_append, ← pulses]
  simp [recoveryFrom, Config.recoveryPulseLimit, stuckLines]

/-- R121 step 4: the data line is free after `p` pulses. -/
theorem recoveryEnd_free {p : Nat} (h : p ≤ 16) (rest : List Lines) :
    recoveryEnd (stuckLines p ++ ⟨true, true⟩ :: rest) = recoveryFrom .stop p rest := by
  cases p with
  | zero => rfl
  | succ p =>
    rw [recoveryEnd_stuck (by omega)]
    simp [recoveryFrom]

theorem recoveryEnd_recovered {p : Nat} (h : p ≤ 16) :
    recoveryEnd (stuckLines p ++ [⟨true, true⟩, ⟨true, true⟩]) = some (.recovered p) := by
  rw [recoveryEnd_free h]
  rfl

theorem recoveryEnd_limit : recoveryEnd (stuckLines 17) = some (.failed 16 .data) ∧
    recoveryEnd (stuckLines 16 ++ [⟨true, true⟩, ⟨true, false⟩]) = some (.failed 16 .data) :=
  ⟨by decide, by decide⟩

/-- The clock line low at the first wait, after a pulse, and at the stop. -/
theorem recoveryEnd_low (data : Bool) :
    recoveryEnd [⟨false, data⟩] = some (.failed 0 (if data then .clock else .both)) ∧
    (∀ p, p ≤ 15 → recoveryEnd (stuckLines (p + 1) ++ [⟨false, data⟩]) =
      some (.failed p (if data then .clock else .both))) ∧
    ∀ p, p ≤ 16 → recoveryEnd (stuckLines p ++ [⟨true, true⟩, ⟨false, data⟩]) =
      some (.failed p (if data then .clock else .both)) := by
  refine ⟨rfl, fun p h => ?_, fun p h => ?_⟩
  · rw [recoveryEnd_stuck (by omega)]
    rfl
  · rw [recoveryEnd_free h]
    rfl

/-! ### Success (R122) -/

theorem recoveryOk_recovered {s : State} {i : SegId} {r : Recovery} {seen : List Lines} {p : Nat}
    (h : (s.seg i).state = .recovering r) (hs : recoveryEnd seen = some (.recovered p)) :
    recoveryOk i seen s = recovered i p r.cause s := by
  rw [recoveryOk, State.segState, h]
  dsimp only
  rw [hs]

/-- R122: the segment freed and the notice posted. -/
def State.freed (s : State) (i : SegId) (p : Nat) (cause : EntryCause) : State :=
  (s.putSeg i { s.seg i with
    state := .idle, busFree := false, clockLine := ⟨true, 0⟩, dataLine := ⟨true, 0⟩ }).withNotice
      (.segmentRecovered i p cause)

theorem recovered_eq (s : State) (i : SegId) (p : Nat) (cause : EntryCause) : recovered i p cause s =
    opportunity i (examine (releaseSegment i (s.freed i p cause))) := by
  rw [recovered, postNotice_eq]
  rfl

theorem freed_seg (s : State) (i : SegId) (p : Nat) (cause : EntryCause) : (s.freed i p cause).seg i =
    { s.seg i with state := .idle, busFree := false, clockLine := ⟨true, 0⟩, dataLine := ⟨true, 0⟩ } :=
  State.seg_putSeg_self _ _ _

/-! ### Failure (R123) -/

theorem recoveryFails_faulted {s : State} {i : SegId} {r : Recovery} {t : FailedRecovery} {p : Nat}
    {held : LineHeld} (h : (s.seg i).state = .recovering r) (hs : recoveryEnd t.seen = some (.failed p held)) :
    recoveryFails i t s = faulted i p held r.cause t.dataMoved s := by
  rw [recoveryFails, State.segState, h]
  dsimp only
  rw [hs]

/-- R119: the lines of a segment whose data line is held, and of one whose clock line is. -/
theorem recoveryFailed_lines (g : Segment) (moved : Bool) :
    g.recoveryFailed .data moved = { g.sees ⟨true, false⟩ with
      clockLine := ⟨true, 0⟩, dataLine := if moved then ⟨false, 0⟩ else (g.sees ⟨true, false⟩).dataLine } ∧
    ∀ data : Bool, g.recoveryFailed (if data then .clock else .both) moved = { g.sees ⟨false, data⟩ with
      dataLine := if moved then ⟨data, 0⟩ else (g.sees ⟨false, data⟩).dataLine } :=
  ⟨rfl, fun data => by cases data <;> rfl⟩

/-- R123: the segment FAULTED. -/
def State.faultedAt (s : State) (i : SegId) (p : Nat) (held : LineHeld) (cause : EntryCause) (g : Segment) :
    State :=
  s.putSeg i { g with state := .faulted ⟨p, cause, some held⟩, consecHost := 0 }

/-- R123 steps 3 and 4: what follows the end of the listed operations. -/
theorem faulted_of {s u : State} {i : SegId} {p : Nat} {held : LineHeld} {cause : EntryCause} {moved : Bool}
    {l : List SlotId} (hl : ((s.seg i).recoveryFailed held moved).pendingList = l)
    (hu : endEach .segmentFaulted l (s.faultedAt i p held cause ((s.seg i).recoveryFailed held moved)) = u)
    (quiet : u.noneQueued) : ∃ v, u.holdsSurvey i v ∧
      faulted i p held cause moved s = v.withNotice (.segmentFault i p held cause) := by
  have moved_ := holdSegment_moved u i
  refine ⟨_, moved_, ?_⟩
  unfold State.faultedAt at hu
  rw [hl] at hu
  rw [faulted]
  dsimp only
  rw [State.seg_putSeg_self, hl, hu, postNotice_eq]
  exact examine_stay quiet ((rq_withNotice _ _).trans moved_.rq)

theorem faulted_ends {s : State} {i : SegId} {p : Nat} {held : LineHeld} (cause : EntryCause) {moved : Bool}
    {g : Segment} (hg : (s.seg i).recoveryFailed held moved = g) (quiet : s.noneQueued) :
    ((s.seg i).pendingList = [] → ∃ v, (s.faultedAt i p held cause g).holdsSurvey i v ∧
      faulted i p held cause moved s = v.withNotice (.segmentFault i p held cause)) ∧
    ∀ k o c x b, (s.seg i).pendingList = [k] → s.carries k o c x → o.segment = i →
      (∀ m, o.state ≠ .active m) → (s.entry o.lt).binding = some b → b.state ≠ .draining → s.postingOpen →
      ∃ v, ((s.faultedAt i p held cause g).opEnded k o c x .segmentFaulted).holdsSurvey i v ∧
        faulted i p held cause moved s = v.withNotice (.segmentFault i p held cause) := by
  subst hg
  refine ⟨fun hl => faulted_of hl rfl quiet, fun k o c x b hl hc hi waits hb hd hp => ?_⟩
  obtain ⟨f, hf⟩ : ∃ f, f = s.faultedAt i p held cause ((s.seg i).recoveryFailed held moved) := ⟨_, rfl⟩
  have on : (f.seg i).state ≠ .idle := by
    rw [hf, State.faultedAt, State.seg_putSeg_self]
    exact nofun
  have carried : f.carries k o c x := by rw [hf]; exact hc
  have ended : endEach .segmentFaulted [k] f = f.opEnded k o c x .segmentFaulted :=
    (endWaiting_waiting .segmentFaulted carried.1 waits).trans
      (slotEnd_carries carried (by decide) (by decide) (by rw [hf]; exact hb) hd (by rw [hf]; exact hp)
        (by rw [hf]; exact quiet) fun _ => hi.symm ▸ on)
  rw [← hf]
  exact faulted_of hl (hf ▸ ended) (by rw [hf]; exact quiet)

/-- Settles O60: by what the procedure sees. -/
theorem recoveryEnds : Obligations.RecoveryEnds := by
  intro s i r h quiet
  refine ⟨fun p hp => ?_, fun moved => ?_⟩
  · have step : exec (.recoverySucceeds i (stuckLines p ++ [⟨true, true⟩, ⟨true, true⟩])) s =
        finish (opportunity i (examine (releaseSegment i (s.freed i p r.cause)))) :=
      congrArg finish ((recoveryOk_recovered h (recoveryEnd_recovered hp)).trans (recovered_eq s i p r.cause))
    obtain ⟨v, hv⟩ : ∃ v, v = s.freed i p r.cause := ⟨_, rfl⟩
    have on := freed_seg s i p r.cause
    have rqv : v.rq = s.rq := by rw [hv]; rfl
    rw [← hv] at step on
    refine ⟨?_, fun work noneHeld => ?_⟩
    · have rel := releaseSegment_released (s := v) (i := i) (by rw [State.segState, on]; rfl)
      have active : v.activeOn i = s.activeOn i := by rw [hv]; rfl
      have rq : (releaseSegment i v).rq = s.rq := by rw [rel.rest]; exact rqv
      rw [active] at rel
      refine ⟨_, hv ▸ rel.released (by simp), step.trans ?_⟩
      rw [examine_stay quiet rq, opportunity_noneQueued i (by rw [State.noneQueued, rq]; exact quiet), hv]
    · have stays : releaseSegment i v = v := releaseSegment_stays fun n hn => by
        rw [hv] at hn ⊢
        exact noneHeld n hn
      refine step.trans ?_
      rw [stays, examine_stay quiet rqv, opportunity_noWork, hv]
      · rfl
      · rw [on]
        exact linesFree_of_high rfl rfl
      · rw [on]
        exact work
  · have fails {seen : List Lines} {p : Nat} {held : LineHeld} {g : Segment}
        (hs : recoveryEnd seen = some (.failed p held)) (hg : (s.seg i).recoveryFailed held moved = g) :
        ((s.seg i).pendingList = [] → ∃ v, (s.faultedAt i p held r.cause g).holdsSurvey i v ∧
          exec (.recoveryFails i ⟨seen, moved⟩) s = finish (v.withNotice (.segmentFault i p held r.cause))) ∧
        ∀ k o c x b, (s.seg i).pendingList = [k] → s.carries k o c x → o.segment = i →
          (∀ m, o.state ≠ .active m) → (s.entry o.lt).binding = some b → b.state ≠ .draining → s.postingOpen →
          ∃ v, ((s.faultedAt i p held r.cause g).opEnded k o c x .segmentFaulted).holdsSurvey i v ∧
            exec (.recoveryFails i ⟨seen, moved⟩) s =
              finish (v.withNotice (.segmentFault i p held r.cause)) := by
      obtain ⟨none_listed, one_listed⟩ := faulted_ends (p := p) r.cause hg quiet
      have step : exec (.recoveryFails i ⟨seen, moved⟩) s = finish (faulted i p held r.cause moved s) :=
        congrArg finish (recoveryFails_faulted h hs)
      rw [step]
      refine ⟨fun hl => ?_, fun k o c x b hl hc hi waits hb hd hp => ?_⟩
      · obtain ⟨v, hv, e⟩ := none_listed hl
        exact ⟨v, hv, congrArg finish e⟩
      · obtain ⟨v, hv, e⟩ := one_listed k o c x b hl hc hi waits hb hd hp
        exact ⟨v, hv, congrArg finish e⟩
    obtain ⟨dataLow, clockLow⟩ := recoveryFailed_lines (s.seg i) moved
    refine ⟨fails recoveryEnd_limit.1 dataLow, fails recoveryEnd_limit.2 dataLow, fun data p => ?_⟩
    obtain ⟨first, pulse, stop⟩ := recoveryEnd_low data
    exact ⟨fun hp => by subst hp; exact fails first (clockLow data), fun hp => fails (pulse p hp) (clockLow data),
      fun hp => fails (stop p hp) (clockLow data)⟩

end Sys2Proof.Machine
end

section
/-! What a survey read makes of the mirror slot, the counts and WINDOW_STATE (R156 to R160), for O56. -/

namespace Sys2Proof.Machine

/-! ### The value read (R156, R157) -/

/-- The bits of a little-endian number are those of its bytes. -/
theorem leNat_testBit : ∀ (l : List Byte) (k : Nat),
    (leNat l).testBit k = (l.getD (k / 8) 0).getLsbD (k % 8)
  | [], k => by simp [leNat]
  | b :: l, k => by
    have low : b.toNat < 2 ^ 8 := b.isLt
    rw [leNat, Nat.add_comm, show (256 : Nat) = 2 ^ 8 from rfl, Nat.testBit_two_pow_mul_add _ low]
    by_cases h : k < 8
    · rw [if_pos h, Nat.div_eq_of_lt h, Nat.mod_eq_of_lt h]
      rfl
    · obtain ⟨j, rfl⟩ : ∃ j, k = j + 8 := ⟨k - 8, by omega⟩
      rw [if_neg h, Nat.add_sub_cancel, leNat_testBit l j, Nat.add_div_right j (by omega), Nat.add_mod_right]
      rfl

theorem lowBytes_getLsbD (length : Nat) (v : Mask64) (k : Nat) :
    (lowBytes length v).getLsbD k = (decide (k < 8 * length) && v.getLsbD k) := by
  have pow : 256 ^ length = 2 ^ (8 * length) := by rw [Nat.pow_mul]
  rw [lowBytes, BitVec.getLsbD_ofNat, pow, Nat.testBit_mod_two_pow]
  by_cases h : k < 64
  · simp [h, BitVec.testBit_toNat]
  · simp [h, BitVec.getLsbD_of_ge v k (by omega)]

/-- R156: the value that the bytes of a read give. -/
theorem readValue_eq {length : Nat} {data : List Byte} {v : Mask64} (h : readValue length data v) :
    v = lowBytes length (BitVec.ofNat 64 (leNat data)) := by
  refine BitVec.eq_of_getLsbD_eq fun k hk => ?_
  rw [h k hk, lowBytes_getLsbD, BitVec.getLsbD_ofNat, leNat_testBit]
  simp [hk]

/-- Two values differ in their low bytes where one of the bits does. -/
theorem lowBytes_ne_iff (length : Nat) (v w : Mask64) :
    lowBytes length v ≠ lowBytes length w ↔ ∃ k < 8 * length, v.getLsbD k ≠ w.getLsbD k := by
  constructor
  · intro h
    by_contra all
    push Not at all
    refine h (BitVec.eq_of_getLsbD_eq fun k _ => ?_)
    rw [lowBytes_getLsbD, lowBytes_getLsbD]
    by_cases low : k < 8 * length
    · rw [all k low]
    · simp [low]
  · rintro ⟨k, low, differ⟩ same
    have := congrArg (BitVec.getLsbD · k) same
    simp only [lowBytes_getLsbD, low, decide_true, Bool.true_and] at this
    exact differ this

/-- R157: when a value read is stored. -/
theorem stores_iff (m : MirrorSlot) (length : Nat) (v : Mask64) :
    stores m length v = true ↔ m.stores length v := by
  rw [stores, Bool.or_eq_true, beq_iff_eq, bne_iff_ne, lowBytes_ne_iff]
  rfl

/-- R158: when a store is reported. -/
theorem changeReported_iff (m : MirrorSlot) (c : SurveyConf) (mask v : Mask64) :
    changeReported m c mask v = true ↔ m.reports c mask v := by
  have bits : lowBytes c.length ((v ^^^ m.value) &&& mask) ≠ 0 ↔
      ∃ k < 8 * c.length, mask.getLsbD k = true ∧ v.getLsbD k ≠ m.value.getLsbD k := by
    have zero : lowBytes c.length 0 = 0 := by simp [lowBytes]
    rw [← zero, lowBytes_ne_iff]
    refine exists_congr fun k => and_congr_right fun _ => ?_
    simp only [BitVec.getLsbD_and, BitVec.getLsbD_xor, BitVec.ofNat_eq_ofNat, BitVec.getLsbD_zero]
    cases v.getLsbD k <;> cases m.value.getLsbD k <;> cases mask.getLsbD k <;> decide
  rw [changeReported, Bool.and_eq_true, stores_iff, MirrorSlot.reports]
  refine and_congr_right fun _ => ?_
  by_cases first : m.generation = 0
  · simp [first]
  · rw [if_neg first, bne_iff_ne, bits]
    exact ⟨fun h => ⟨fun zero => absurd zero first, fun _ => h⟩, fun h => h.2 first⟩

/-- R159: the place of a value. -/
theorem placedBy_eq {low high v : Mask64} {w : WindowState} (h : placedBy low high v w) :
    judgeWindow low high v = w := by
  obtain ⟨below, above, inside⟩ := h
  unfold judgeWindow
  by_cases h1 : v.toNat < low.toNat
  · rw [if_pos h1, below h1]
  · by_cases h2 : high.toNat < v.toNat
    · rw [if_neg h1, if_pos h2, above (by omega) h2]
    · rw [if_neg h1, if_neg h2, inside (by omega) (by omega)]

/-! ### The notices (R158, R159) -/

theorem putSv_withNotices (l : List NoticeBody) (n : SvId) (v : SurveyEntry) : ∀ s : State,
    (s.withNotices l).putSv n v = (s.putSv n v).withNotices l := by
  induction l with
  | nil => exact fun s => rfl
  | cons b l ih => exact fun s => (ih _).trans (by rw [State.putSv_withNotice]; rfl)

theorem withNotices_append (l l' : List NoticeBody) (s : State) :
    s.withNotices (l ++ l') = (s.withNotices l).withNotices l' := List.foldl_append

@[simp] theorem sv_withNotices (l : List NoticeBody) (n : SvId) : ∀ s : State,
    (s.withNotices l).sv n = s.sv n := by
  induction l with
  | nil => exact fun s => rfl
  | cons b l ih => exact fun s => ih _

@[simp] theorem mirrorSlot_withNotices (l : List NoticeBody) (n : SvId) : ∀ s : State,
    (s.withNotices l).mirrorSlot n = s.mirrorSlot n := by
  induction l with
  | nil => exact fun s => rfl
  | cons b l ih => exact fun s => ih _

/-- R158, R159: what a DONE read of MODE `mode` makes of WINDOW_STATE `before`, and the notices it posts. -/
def modeTakes (n : SvId) (c : SurveyConf) (old new : MirrorSlot) (before : WindowState) (v : Mask64)
    (w : WindowState) (l : List NoticeBody) : Prop :=
  match c.mode with
  | .none => w = before ∧ l = []
  | .change mask => w = before ∧
      (old.reports c mask v → l = [.surveyChange n new.generation new.value]) ∧
      (¬ old.reports c mask v → l = [])
  | .window low high => placedBy low high v w ∧
      (w = before ∨ before = .unknown ∧ w = .inside → l = []) ∧
      (w ≠ before → ¬ (before = .unknown ∧ w = .inside) →
        l = [.surveyWindow n w before new.generation new.value])

theorem noticeOfDone_eq {s : State} {n : SvId} {c : SurveyConf} {old new : MirrorSlot} {v : Mask64}
    {w : WindowState} {l : List NoticeBody} (hm : s.mirrorSlot n = new)
    (h : modeTakes n c old new (s.sv n).windowState v w l) :
    noticeOfDone n c old (s.sv n).windowState v s =
      (s.putSv n { s.sv n with windowState := w }).withNotices l := by
  have kept : s.putSv n { s.sv n with windowState := (s.sv n).windowState } = s := State.putSv_sv s n
  unfold modeTakes at h
  unfold noticeOfDone
  rw [hm]
  cases hc : c.mode with
  | none =>
    rw [hc] at h
    obtain ⟨rfl, rfl⟩ := h
    exact kept.symm
  | change mask =>
    rw [hc] at h
    obtain ⟨rfl, reported, quiet⟩ := h
    dsimp only
    rw [kept]
    by_cases told : old.reports c mask v
    · rw [if_pos ((changeReported_iff _ _ _ _).2 told), reported told, postNotice_eq]
      rfl
    · rw [if_neg (mt (changeReported_iff _ _ _ _).1 told), quiet told]
      rfl
  | window low high =>
    rw [hc] at h
    obtain ⟨placed, quiet, told⟩ := h
    dsimp only
    rw [placedBy_eq placed]
    by_cases still : w = (s.sv n).windowState ∨ (s.sv n).windowState = .unknown ∧ w = .inside
    · rw [if_pos still, quiet still]
      rfl
    · obtain ⟨h1, h2⟩ := not_or.1 still
      rw [if_neg still, told h1 h2, postNotice_eq]
      rfl

/-! ### What the read makes of the entry (R157, R160) -/

/-- R157: the mirror slot after a DONE read. -/
theorem slotAfterDone_eq {old m : MirrorSlot} {c : SurveyConf} {v : Mask64} {now : Word16}
    (stored : old.stores c.length v →
      m = ⟨if old.generation = 65535 then 1 else old.generation + 1, .valid, c.length, v, now⟩)
    (kept : ¬ old.stores c.length v → m = { old with status := .valid, lastReadTime := now }) :
    slotAfterDone old c.length v now = m := by
  by_cases h : old.stores c.length v
  · rw [slotAfterDone, if_pos ((stores_iff _ _ _).2 h), stored h]
    rfl
  · rw [slotAfterDone, if_neg (mt (stores_iff _ _ _).1 h), kept h]

theorem surveyDone_eq {s : State} {n : SvId} {c : SurveyConf} {data : List Byte} {v : Mask64} {m : MirrorSlot}
    {w : WindowState} {l : List NoticeBody} (hv : readValue c.length data v)
    (hm : slotAfterDone (s.mirrorSlot n) c.length v s.timebase.time = m)
    (h : modeTakes n c (s.mirrorSlot n) m (s.sv n).windowState v w l) :
    surveyDone n c data s = ((s.putSv n { s.sv n with consecFails := 0, windowState := w }).putMirror n m).withNotices
      ((if (s.mirrorSlot n).status = .stale then [.surveyRecovered n m.generation m.value] else []) ++ l) := by
  obtain ⟨q, hq⟩ : ∃ q, q = (s.putSv n { s.sv n with consecFails := 0 }).putMirror n m := ⟨_, rfl⟩
  obtain ⟨l0, hl0⟩ : ∃ l0 : List NoticeBody, l0 = if (s.mirrorSlot n).status = .stale then
    [.surveyRecovered n m.generation m.value] else [] := ⟨_, rfl⟩
  have sv : q.sv n = { s.sv n with consecFails := 0 } := by rw [hq]; exact State.sv_putSv_self _ _ _
  have mirror : q.mirrorSlot n = m := by rw [hq]; exact State.mirrorSlot_putMirror_self _ _ _
  have recovered : (if (s.mirrorSlot n).status = .stale then
      postNotice (.surveyRecovered n m.generation m.value) q else q) = q.withNotices l0 := by
    rw [hl0]
    split
    · exact postNotice_eq _ _
    · rfl
  have step : surveyDone n c data s =
      noticeOfDone n c (s.mirrorSlot n) (s.sv n).windowState v (q.withNotices l0) := by
    rw [surveyDone, ← readValue_eq hv, show s.now = s.timebase.time from rfl, hm, ← recovered, ← mirror, hq]
    simp
  have before : ((q.withNotices l0).sv n).windowState = (s.sv n).windowState := by rw [sv_withNotices, sv]
  have told := noticeOfDone_eq (s := q.withNotices l0) (n := n) (c := c) (old := s.mirrorSlot n) (new := m)
    (v := v) (w := w) (l := l) ((mirrorSlot_withNotices _ _ _).trans mirror) (before ▸ h)
  rw [before] at told
  rw [step, told, sv_withNotices, sv, putSv_withNotices, withNotices_append, ← hl0, hq]
  simp

theorem putMirror_mirrorSlot (s : State) (n : SvId) : s.putMirror n (s.mirrorSlot n) = s := by
  simp only [State.putMirror, State.mirrorSlot, put_look]

theorem surveyFailed_eq {s : State} {n : SvId} {c : SurveyConf} {o : Outcome} {m : MirrorSlot} {fails : Nat}
    {l : List NoticeBody} (hf : fails = min ((s.sv n).consecFails + 1) 15)
    (reached : (s.sv n).consecFails < fails ∧ fails = c.failThreshold →
      m = { s.mirrorSlot n with status := .stale } ∧ l = [.surveyFailed n c.lt o fails])
    (short : ¬ ((s.sv n).consecFails < fails ∧ fails = c.failThreshold) → m = s.mirrorSlot n ∧ l = []) :
    surveyFailed n c o s =
      ((s.putSv n { s.sv n with consecFails := fails }).putMirror n m).withNotices l := by
  rw [surveyFailed, Config.failCeiling, ← hf]
  dsimp only
  by_cases h : (s.sv n).consecFails < fails ∧ fails = c.failThreshold
  · obtain ⟨rfl, rfl⟩ := reached h
    rw [if_pos h, postNotice_eq]
    rfl
  · obtain ⟨rfl, rfl⟩ := short h
    rw [if_neg h]
    exact (putMirror_mirrorSlot (s.putSv n { s.sv n with consecFails := fails }) n).symm

/-- R157 to R160: what the read makes of its entry, as `State.takesRead` says it. -/
theorem takesRead_eq {s : State} {n : SvId} {c : SurveyConf} {r : AttemptResult} {m : MirrorSlot} {fails : Nat}
    {w : WindowState} {l : List NoticeBody} (h : s.takesRead n c r m fails w l) :
    (if r.outcome = .done then surveyDone n c r.data s else surveyFailed n c r.outcome s) =
      ((s.putSv n { s.sv n with consecFails := fails, windowState := w }).putMirror n m).withNotices l := by
  obtain ⟨done, failed⟩ := h
  by_cases hr : r.outcome = .done
  · obtain ⟨rfl, v, l', value, stored, kept, rfl, mode⟩ := done hr
    rw [if_pos hr]
    exact surveyDone_eq value (slotAfterDone_eq stored kept) mode
  · obtain ⟨rfl, hf, reached, short⟩ := failed hr
    rw [if_neg hr]
    exact surveyFailed_eq hf reached short

end Sys2Proof.Machine
end

section
/-! The end of a survey read: where the entry goes, and the reference it held (R6, R88, R154, R161): O56. -/

namespace Sys2Proof.Machine

/-! ### Writes past notices -/

@[simp] theorem putEntry_withNotices (l : List NoticeBody) (lt : LtId) (e : MapEntry) : ∀ s : State,
    (s.withNotices l).putEntry lt e = (s.putEntry lt e).withNotices l := by
  induction l with
  | nil => exact fun s => rfl
  | cons b l ih => exact fun s => (ih _).trans (by rw [State.putEntry_withNotice]; rfl)

@[simp] theorem entry_withNotices (l : List NoticeBody) (lt : LtId) : ∀ s : State,
    (s.withNotices l).entry lt = s.entry lt := by
  induction l with
  | nil => exact fun s => rfl
  | cons b l ih => exact fun s => ih _

@[simp] theorem timebase_withNotices (l : List NoticeBody) : ∀ s : State,
    (s.withNotices l).timebase = s.timebase := by
  induction l with
  | nil => exact fun s => rfl
  | cons b l ih => exact fun s => ih _

/-! ### The transaction -/

theorem ownerTakes_survey {cur : Current} {n : SvId} {lt : LtId} (hw : cur.work = .survey n)
    (hl : cur.lt = some lt) (reset : cur.stop.reset = false) (i : SegId) (r : AttemptResult) (s : State) :
    ownerTakes i cur r s = examine (releaseRef lt (takeSurveyRead i n r s)) := by
  rw [ownerTakes, reset, hw]
  dsimp only
  rw [hl]
  rfl

theorem mapTakes_survey {s : State} {cur : Current} {n : SvId} {lt : LtId} (hw : cur.work = .survey n)
    (hl : cur.lt = some lt) (r : AttemptResult) : mapTakes cur r s = countOutcome lt r s := by
  rw [mapTakes, hl]
  dsimp only
  rw [hw]

/-- What the survey engine finds at the end of a read: the segment seen, and the outcome counted. -/
def State.readTaken (s : State) (i : SegId) (lt : LtId) (r : AttemptResult) : State :=
  (s.putSeg i ((s.seg i).sees ⟨true, true⟩)).putEntry lt (s.counted lt r)

section
variable {s : State} {i : SegId} {n : SvId} {c : SurveyConf} {d : DueTime} {x : ExitTo} {b : Binding}
  {cur : Current} {t : BusTrace} {r : AttemptResult}

/-- R88: the end of a survey read, up to the survey engine: `T` is what that leaves, its reference
released. -/
theorem readEnds {T : State} (h : (s.seg i).state = .busy cur) (hw : cur.work = .survey n)
    (hl : cur.lt = some c.lt) (hr : cur.endsBy t r) (hb : (s.entry c.lt).binding = some b)
    (undue : b.threshold = 0 ∨ b.state = .draining) (busy : (s.seg i).busFree = false)
    (released : releaseRef c.lt (takeSurveyRead i n r (s.readTaken i c.lt r)) = T) (quiet : T.noneQueued)
    (lines : (T.seg i).clockLine.high = true ∧ (T.seg i).dataLine.high = true) :
    exec (.transactionEnd i t ⟨true, true⟩) s = finish (opportunity i (T.inState i .idle)) := by
  have none_due : ∀ lt, cur.lt = some lt →
      isolationDue lt r (s.putSeg i ((s.seg i).sees ⟨true, true⟩)) = false := fun lt e => by
    rw [← Option.some.inj (hl.symm.trans e)]
    refine isolationDue_not (s := s.putSeg i _) hb (undue.elim (fun z => .inr (.inl z)) fun z => .inl ?_)
    rw [z]
    decide
  have taken : mapTakes cur r (s.putSeg i ((s.seg i).sees ⟨true, true⟩)) = s.readTaken i c.lt r :=
    (mapTakes_survey hw hl r).trans (countOutcome_of (s := s.putSeg i ((s.seg i).sees ⟨true, true⟩)) hb r)
  refine congrArg finish ((transactionEnds_by h hr busy).trans ?_)
  rw [endTransaction_undue none_due, taken, ownerTakes_survey hw hl (by rw [hr.1]), released,
    examine_stay quiet rfl, afterTransaction_idle (by rw [hr.1]) quiet lines]

theorem readTaken_entry : (s.readTaken i c.lt r).entry c.lt = s.counted c.lt r := State.entry_putEntry_self _ _ _

theorem readTaken_seg : (s.readTaken i c.lt r).seg i = (s.seg i).sees ⟨true, true⟩ := State.seg_putSeg_self _ _ _

/-- R156 step 2: the read of an entry that is to be ORPHANED. -/
theorem takeSurveyRead_orphaned {q : State} (hn : (q.sv n).setup = some ⟨c, .reading d .orphaned⟩)
    (hr : r.outcome ≠ .aborted) : takeSurveyRead i n r q =
      q.putSv n { q.sv n with setup := some ⟨c, .orphaned⟩ } := by
  rw [takeSurveyRead, hn]
  dsimp only
  rw [if_neg hr, if_pos rfl, putSvRun_of hn]

/-- R156 steps 3 and 4: the read of an entry that goes on or stops. -/
theorem takeSurveyRead_takes {q : State} {m : MirrorSlot} {fails : Nat} {w : WindowState} {l : List NoticeBody}
    (hn : (q.sv n).setup = some ⟨c, .reading d x⟩) (hr : r.outcome ≠ .aborted) (hx : x ≠ .orphaned)
    (takes : q.takesRead n c r m fails w l) : takeSurveyRead i n r q =
      let T := ((q.putSv n { q.sv n with consecFails := fails, windowState := w }).putMirror n m).withNotices l
      if x = .stopped then T.putSvRun n .stopped else surveyNextDue n i c d T := by
  rw [takeSurveyRead, hn]
  dsimp only
  rw [if_neg hr, if_neg hx, takesRead_eq takes]

end

/-! ### Tables that show the same entries -/

theorem table_ext {α : Type} {n : Nat} {t u : Vector α n} (h : ∀ i : Fin n, look t i = look u i) : t = u := by
  rw [← Vector.toList_inj, toList_eq_map_look, toList_eq_map_look]
  exact List.map_congr_left fun i _ => h i

/-- With nothing DUE a move of survey entries leaves the segments alone. -/
theorem State.surveyMoved.segs {s t : State} {i : SegId} {f : SurveyConf → SurveyRun → SurveyRun}
    {p : SurveyConf → SurveyRun → Bool} (h : s.surveyMoved t i f p) (due : (s.seg i).dueList = []) :
    t = { s with survey := t.survey } := by
  obtain ⟨h1, -, h3⟩ := h
  have segs : t.segs = s.segs := table_ext fun j => by
    refine (h3 j).trans ?_
    split
    · next e =>
      rw [due, List.filter_nil, e, ← due]
      rfl
    · rfl
  rw [← segs]
  exact h1

section
variable {s : State} {i : SegId} {n : SvId} {c : SurveyConf} {d : DueTime} {x : ExitTo} {b : Binding}
  {cur : Current} {t : BusTrace} {r : AttemptResult}

/-- The map entry that a survey read leaves, its reference released. -/
def State.readEntry (s : State) (lt : LtId) (r : AttemptResult) : MapEntry :=
  { s.counted lt r with refCount := (s.entry lt).refCount - 1 }

/-- R6: an entry ORPHANED at the end of its read, and its target kept. -/
theorem orphaned_kept (h : (s.seg i).state = .busy cur) (hw : cur.work = .survey n)
    (hl : cur.lt = some c.lt) (hr : cur.endsBy t r) (hn : (s.sv n).setup = some ⟨c, .reading d .orphaned⟩)
    (hb : (s.entry c.lt).binding = some b) (undue : b.threshold = 0 ∨ b.state = .draining)
    (other : r.outcome ≠ .aborted) (quiet : s.noneQueued) (work : (s.seg i).noWork)
    (busy : (s.seg i).busFree = false) (ref : b.state ≠ .draining ∨ (s.entry c.lt).refCount ≠ 1) :
    exec (.transactionEnd i t ⟨true, true⟩) s = finish (((s.putEntry c.lt (s.readEntry c.lt r)).putSeg i
      { (s.seg i).sees ⟨true, true⟩ with state := .idle }).putSv n
        { s.sv n with setup := some ⟨c, .orphaned⟩ }) := by
  obtain ⟨T, hT⟩ : ∃ T, T = ((s.readTaken i c.lt r).putSv n { s.sv n with
    setup := some ⟨c, .orphaned⟩ }).putEntry c.lt (s.readEntry c.lt r) := ⟨_, rfl⟩
  have on : T.seg i = (s.seg i).sees ⟨true, true⟩ := by rw [hT]; exact readTaken_seg (c := c) (r := r)
  have released : releaseRef c.lt (takeSurveyRead i n r (s.readTaken i c.lt r)) = T := by
    rw [takeSurveyRead_orphaned (q := s.readTaken i c.lt r) hn other,
      releaseRef_kept (b := b) (by rw [State.entry_putSv_read, readTaken_entry]; exact hb)
        (by rw [State.entry_putSv_read, readTaken_entry]; exact ref),
      State.unreferenced, State.entry_putSv_read, readTaken_entry, hT]
    rfl
  refine (readEnds h hw hl hr hb undue busy released (by rw [hT]; exact quiet)
    (by rw [on]; exact ⟨sees_clock _ _, sees_data _ _⟩)).trans (congrArg finish ?_)
  rw [opportunity_noWork]
  · rw [State.inState, on, hT]
    simp [State.readTaken]
  · rw [noWork_inState, on]
    exact linesFree_of_high (sees_clock _ _) (sees_data _ _)
  · rw [noWork_inState, on]
    exact work

/-- R6, R8: an entry ORPHANED at the end of its read, with which its target retires. -/
theorem orphaned_retired (h : (s.seg i).state = .busy cur) (hw : cur.work = .survey n)
    (hl : cur.lt = some c.lt) (hr : cur.endsBy t r) (hn : (s.sv n).setup = some ⟨c, .reading d .orphaned⟩)
    (hb : (s.entry c.lt).binding = some b) (hi : b.segment = i)
    (undue : b.threshold = 0 ∨ b.state = .draining)
    (other : r.outcome ≠ .aborted) (quiet : s.noneQueued) (work : (s.seg i).noWork)
    (busy : (s.seg i).busFree = false) (draining : b.state = .draining) (last : (s.entry c.lt).refCount = 1) :
    ∃ v, s.surveyMoved v i (fun k q => if k.lt = c.lt then .orphaned else q) (fun k _ => k.lt == c.lt) ∧
      exec (.transactionEnd i t ⟨true, true⟩) s = finish (((v.putSeg i
        { (s.seg i).sees ⟨true, true⟩ with state := .idle }).putEntry c.lt ⟨none, 0, 0⟩).withNotice
          (.targetRetired c.lt b.segment b.address)) := by
  subst hi
  obtain ⟨q, hq⟩ : ∃ q, q = ((s.readTaken b.segment c.lt r).putSv n { s.sv n with
    setup := some ⟨c, .orphaned⟩ }).putEntry c.lt (s.readEntry c.lt r) := ⟨_, rfl⟩
  have bound : (q.entry c.lt).binding = some b := by
    rw [hq, State.entry_putEntry_self]
    exact hb
  have seg : q.seg b.segment = (s.seg b.segment).sees ⟨true, true⟩ := by rw [hq]; exact readTaken_seg (c := c) (r := r)
  have moved := orphanTarget_moved hb
  have moved' := orphanTarget_moved bound
  have still := moved.segs work.2.1
  have still' := moved'.segs (by rw [seg]; exact work.2.1)
  obtain ⟨v, hv⟩ : ∃ v, v = orphanTarget c.lt s := ⟨_, rfl⟩
  obtain ⟨v', hv'⟩ : ∃ v', v' = orphanTarget c.lt q := ⟨_, rfl⟩
  rw [← hv] at moved still
  rw [← hv'] at moved' still'
  have survey : v'.survey = v.survey := table_ext fun m => by
    refine (moved'.2.1 m).trans (Eq.trans ?_ (moved.2.1 m).symm)
    by_cases e : m = n
    · subst e
      have sv : q.sv m = { s.sv m with setup := some ⟨c, .orphaned⟩ } := by
        rw [hq]
        exact State.sv_putSv_self _ _ _
      rw [sv, hn]
      simp
    · have sv : q.sv m = s.sv m := by
        rw [hq]
        exact (State.sv_putSv _ _ _ _).trans (if_neg (Ne.symm e))
      rw [sv]
  have released : releaseRef c.lt (takeSurveyRead b.segment n r (s.readTaken b.segment c.lt r)) =
      (v'.putEntry c.lt ⟨none, 0, 0⟩).withNotice (.targetRetired c.lt b.segment b.address) := by
    rw [takeSurveyRead_orphaned (q := s.readTaken b.segment c.lt r) hn other,
      releaseRef_eq (b := b) (by rw [State.entry_putSv_read, readTaken_entry]; exact hb),
      State.entry_putSv_read, readTaken_entry, if_pos ⟨draining, last⟩, completeRetirement_posted, hv', hq]
    rfl
  have on : ((v'.putEntry c.lt ⟨none, 0, 0⟩).withNotice (.targetRetired c.lt b.segment b.address)).seg b.segment =
      (s.seg b.segment).sees ⟨true, true⟩ := by
    rw [State.seg_withNotice, State.seg_putEntry_read, still']
    exact seg
  have rq : v'.rq = s.rq := by
    rw [still', hq]
    rfl
  have same : v' = ((v.putSeg b.segment ((s.seg b.segment).sees ⟨true, true⟩)).putEntry c.lt
      (s.counted c.lt r)).putEntry c.lt (s.readEntry c.lt r) := by
    rw [still', survey, still, hq]
    rfl
  refine ⟨v, moved, ?_⟩
  refine (readEnds h hw hl hr hb undue busy released (by unfold State.noneQueued; rw [rq_withNotice]; exact rq ▸ quiet)
    (by rw [on]; exact ⟨sees_clock _ _, sees_data _ _⟩)).trans (congrArg finish ?_)
  rw [opportunity_noWork]
  · rw [State.inState, on, same]
    simp
  · rw [noWork_inState, on]
    exact linesFree_of_high (sees_clock _ _) (sees_data _ _)
  · rw [noWork_inState, on]
    exact work

end

end Sys2Proof.Machine
end

section
/-! The end of a survey read whose outcome the entry takes (R156 to R161): O56. -/

namespace Sys2Proof.Machine

/-- What the read leaves of the mirror slot, the entry and the NQ. -/
def State.tookRead (s : State) (n : SvId) (m : MirrorSlot) (l : List NoticeBody) (v : SurveyEntry) : State :=
  ((s.putSv n v).putMirror n m).withNotices l

section
variable {s : State} {i : SegId} {n : SvId} {c : SurveyConf} {d : DueTime} {x : ExitTo} {b : Binding}
  {cur : Current} {t : BusTrace} {r : AttemptResult} {m : MirrorSlot} {fails : Nat} {w : WindowState}
  {l : List NoticeBody}

@[simp] theorem tookRead_sv (v : SurveyEntry) : (s.tookRead n m l v).sv n = v :=
  (sv_withNotices _ _ _).trans (State.sv_putSv_self _ _ _)
@[simp] theorem tookRead_seg (v : SurveyEntry) : (s.tookRead n m l v).seg i = s.seg i := seg_withNotices _ _ _
@[simp] theorem tookRead_entry (lt : LtId) (v : SurveyEntry) : (s.tookRead n m l v).entry lt = s.entry lt :=
  entry_withNotices _ _ _
@[simp] theorem tookRead_timebase (v : SurveyEntry) : (s.tookRead n m l v).timebase = s.timebase :=
  timebase_withNotices _ _
@[simp] theorem tookRead_rq (v : SurveyEntry) : (s.tookRead n m l v).rq = s.rq := rq_withNotices _ _
@[simp] theorem tookRead_putSv (v v' : SurveyEntry) :
    (s.tookRead n m l v).putSv n v' = s.tookRead n m l v' := by
  simp [State.tookRead, putSv_withNotices]
@[simp] theorem tookRead_putEntry (lt : LtId) (v : SurveyEntry) (e : MapEntry) :
    (s.tookRead n m l v).putEntry lt e = (s.putEntry lt e).tookRead n m l v := by
  simp [State.tookRead]
@[simp] theorem tookRead_putSeg (v : SurveyEntry) (g : Segment) :
    (s.tookRead n m l v).putSeg i g = (s.putSeg i g).tookRead n m l v := by
  simp [State.tookRead, withNotices_putSeg]

/-- R156 steps 3 and 4: the read of an entry that stops, or goes on. -/
theorem takeSurveyRead_took {q : State} (hn : (q.sv n).setup = some ⟨c, .reading d x⟩)
    (hr : r.outcome ≠ .aborted) (hx : x ≠ .orphaned) (takes : q.takesRead n c r m fails w l) :
    takeSurveyRead i n r q =
      let T := q.tookRead n m l ⟨some ⟨c, .reading d x⟩, fails, (q.sv n).overruns, w⟩
      if x = .stopped then T.putSvRun n .stopped else surveyNextDue n i c d T := by
  rw [takeSurveyRead_takes hn hr hx takes, State.tookRead, ← hn]

/-- R88: a read whose entry is left with `v` releases its reference. -/
theorem tookRead_released {q : State} (v : SurveyEntry) (hq : q.entry c.lt = s.counted c.lt r)
    (hb : (s.entry c.lt).binding = some b) (keeps : b.state ≠ .draining) :
    releaseRef c.lt (q.tookRead n m l v) = (q.putEntry c.lt (s.readEntry c.lt r)).tookRead n m l v := by
  have entry : (q.tookRead n m l v).entry c.lt = s.counted c.lt r := (tookRead_entry _ _).trans hq
  rw [releaseRef_kept (b := b) (by rw [entry]; exact hb) (.inl keeps), State.unreferenced, entry,
    tookRead_putEntry]
  rfl

/-- R161: with no other work, a read whose entry is left with `v` leaves the segment IDLE. -/
theorem tookRead_ends {v : SurveyEntry} (h : (s.seg i).state = .busy cur) (hw : cur.work = .survey n)
    (hl : cur.lt = some c.lt) (hr : cur.endsBy t r) (hb : (s.entry c.lt).binding = some b)
    (undue : b.threshold = 0 ∨ b.state = .draining) (quiet : s.noneQueued) (work : (s.seg i).noWork)
    (busy : (s.seg i).busFree = false) (keeps : b.state ≠ .draining)
    (took : takeSurveyRead i n r (s.readTaken i c.lt r) = (s.readTaken i c.lt r).tookRead n m l v) :
    exec (.transactionEnd i t ⟨true, true⟩) s = finish (((s.putEntry c.lt (s.readEntry c.lt r)).putSeg i
      { (s.seg i).sees ⟨true, true⟩ with state := .idle }).tookRead n m l v) := by
  obtain ⟨T, hT⟩ : ∃ T, T = ((s.readTaken i c.lt r).putEntry c.lt (s.readEntry c.lt r)).tookRead n m l v :=
    ⟨_, rfl⟩
  have on : T.seg i = (s.seg i).sees ⟨true, true⟩ := by
    rw [hT, tookRead_seg]
    exact readTaken_seg (c := c) (r := r)
  have released : releaseRef c.lt (takeSurveyRead i n r (s.readTaken i c.lt r)) = T := by
    rw [took, tookRead_released v readTaken_entry hb keeps, hT]
  refine (readEnds h hw hl hr hb undue busy released (by unfold State.noneQueued; rw [hT, tookRead_rq]; exact quiet)
    (by rw [on]; exact ⟨sees_clock _ _, sees_data _ _⟩)).trans (congrArg finish ?_)
  rw [opportunity_noWork]
  · rw [State.inState, on, hT]
    simp [State.readTaken]
  · rw [noWork_inState, on]
    exact linesFree_of_high (sees_clock _ _) (sees_data _ _)
  · rw [noWork_inState, on]
    exact work

/-- R161: the entry read is waiting again, as long as its PERIOD has not passed. -/
theorem surveyNextDue_waits {q : State} {v : SurveyEntry} (hv : v.setup = some ⟨c, .reading d x⟩)
    (early : (q.timebase.time - d.time).toNat < c.period.toNat) :
    surveyNextDue n i c d (q.tookRead n m l v) =
      q.tookRead n m l { v with setup := some ⟨c, .waiting ⟨d.time + c.period, d.time⟩⟩ } := by
  have time : (q.tookRead n m l v).now = q.timebase.time := congrArg (·.time) (tookRead_timebase v)
  rw [surveyNextDue, if_neg (by rw [time]; exact Nat.not_le.2 early),
    setDueTime_later (by rw [tookRead_timebase]; exact early), putSvRun_of (u := ⟨c, .reading d x⟩)
      (by rw [tookRead_sv]; exact hv), tookRead_putSv, tookRead_sv]

/-- R161, R153: an entry read a whole PERIOD late counts an OVERRUN and is due at once, the only one. -/
theorem surveyNextDue_late {q : State} {v : SurveyEntry} (hv : v.setup = some ⟨c, .reading d x⟩)
    (late : c.period.toNat ≤ (q.timebase.time - d.time).toNat) (due : (q.seg i).dueList = []) :
    surveyNextDue n i c d (q.tookRead n m l v) =
      (q.putSeg i { q.seg i with dueList := [n] }).tookRead n m l
        { v with
          setup := some ⟨c, .due ⟨q.timebase.time, q.timebase.time⟩⟩
          overruns := min (v.overruns + 1) 255 } := by
  have time : (q.tookRead n m l v).now = q.timebase.time := congrArg (·.time) (tookRead_timebase v)
  obtain ⟨p, hp⟩ : ∃ p, p = q.tookRead n m l { v with overruns := min (v.overruns + 1) 255 } := ⟨_, rfl⟩
  have empty : (p.seg i).dueList = [] := by rw [hp, tookRead_seg]; exact due
  obtain ⟨l1, l2, e1, e2, -, -⟩ := joinDue_of (s := p) (n := n) (u := ⟨c, .reading d x⟩)
    (by rw [hp, tookRead_sv]; exact hv) i ⟨q.timebase.time, q.timebase.time⟩ (by rw [empty]; exact List.not_mem_nil)
  obtain ⟨rfl, rfl⟩ := List.append_eq_nil_iff.1 (e1.symm.trans empty)
  have now : p.timebase.time = q.timebase.time := by rw [hp, tookRead_timebase]
  rw [surveyNextDue, if_pos (by rw [time]; exact late)]
  dsimp only
  rw [tookRead_putSv, tookRead_sv, Config.byteCeiling, ← hp, setDueTime_now, now, e2, hp]
  simp

/-- R92, R154: the entry due again is granted at once. -/
theorem tookRead_again {v : SurveyEntry} (h : (s.seg i).state = .busy cur) (hw : cur.work = .survey n)
    (hl : cur.lt = some c.lt) (hr : cur.endsBy t r) (hb : (s.entry c.lt).binding = some b)
    (hi : b.segment = i)
    (undue : b.threshold = 0 ∨ b.state = .draining) (quiet : s.noneQueued)
    (work : (s.seg i).noWork) (busy : (s.seg i).busFree = false) (keeps : b.state ≠ .draining)
    (hv : v.setup = some ⟨c, .due d⟩)
    (took : takeSurveyRead i n r (s.readTaken i c.lt r) = ((s.readTaken i c.lt r).putSeg i
      { (s.seg i).sees ⟨true, true⟩ with dueList := [n] }).tookRead n m l v) :
    exec (.transactionEnd i t ⟨true, true⟩) s = finish (((s.putEntry c.lt
      { s.readEntry c.lt r with refCount := (s.readEntry c.lt r).refCount + 1 }).putSeg i
        (({ (s.seg i).sees ⟨true, true⟩ with state := .idle, consecHost := 0 } : Segment).granted (.survey n)
          (some c.lt) (surveyScript b.address c))).tookRead n m l
            { v with setup := some ⟨c, .reading d .waiting⟩ }) := by
  obtain ⟨no_pending, no_due, no_alert⟩ := work
  obtain ⟨due, hdue⟩ : ∃ g, g = { (s.seg i).sees ⟨true, true⟩ with dueList := [n] } := ⟨_, rfl⟩
  obtain ⟨T, hT⟩ : ∃ T, T = (((s.readTaken i c.lt r).putSeg i due).putEntry c.lt
    (s.readEntry c.lt r)).tookRead n m l v := ⟨_, rfl⟩
  have on : T.seg i = due := by
    rw [hT, tookRead_seg]
    exact State.seg_putSeg_self _ _ _
  have released : releaseRef c.lt (takeSurveyRead i n r (s.readTaken i c.lt r)) = T := by
    rw [took, ← hdue, tookRead_released (q := (s.readTaken i c.lt r).putSeg i due) (s := s) (r := r) v
      (readTaken_entry (i := i)) hb keeps, hT]
  have none_queued : T.noneQueued := by unfold State.noneQueued; rw [hT, tookRead_rq]; exact quiet
  refine (readEnds h hw hl hr hb undue busy released none_queued
    (by rw [on, hdue]; exact ⟨sees_clock _ _, sees_data _ _⟩)).trans (congrArg finish ?_)
  obtain ⟨W, hW⟩ : ∃ W, W = T.inState i .idle := ⟨_, rfl⟩
  have seg : W.seg i = { due with state := .idle } := by
    rw [hW, State.inState, State.seg_putSeg_self, on]
  have chosen : choose i W = some (.survey n) := by
    refine choose_survey (rest := []) ?_ (by rw [seg, hdue]) (.inr (eligible_none ?_))
    · rw [seg, hdue]
      exact mt (alertCalled_iff _).1 no_alert
    · rw [seg, hdue]
      intro l1 k l2 e
      exact absurd (no_pending.symm.trans e) (by simp)
  have sv : W.sv n = v := by
    rw [hW, hT]
    exact tookRead_sv v
  have entry : W.entry c.lt = s.readEntry c.lt r := by
    rw [hW, hT]
    exact (tookRead_entry c.lt v).trans (State.entry_putEntry_self _ _ _)
  rw [opportunity_noneQueued i (s := T.inState i .idle) none_queued, ← hW, arbitrate_chosen (by rw [seg]) (by
    rw [seg, hdue]
    exact linesFree_of_high (sees_clock _ _) (sees_data _ _)) chosen,
    grant_survey (by rw [sv, hv]) (by rw [entry]; exact hb) hi, sv, entry, seg, hdue, hW, State.inState, hT]
  simp [State.readTaken, no_due]

end

/-- Settles O56, by where EXIT_TO sends the entry. -/
theorem surveyReadEnds : Obligations.SurveyReadEnds := by
  intro s i n c d x b cur t r h hw hl hr hn hb hi undue other quiet work busy
  dsimp only
  rw [countOutcome_entry hb]
  refine ⟨?_, fun m fails w l keeps takes => ?_⟩
  · rintro rfl
    exact ⟨orphaned_kept h hw hl hr hn hb undue other quiet work busy,
      orphaned_retired h hw hl hr hn hb hi undue other quiet work busy⟩
  have took (hx : x ≠ .orphaned) := takeSurveyRead_took (i := i) (q := s.readTaken i c.lt r) hn other hx takes
  have form (e : MapEntry) (g : Segment) (v : SurveyEntry) :
      ((((s.putEntry c.lt e).putSeg i g).putMirror n m).withNotices l).putSv n v =
        ((s.putEntry c.lt e).putSeg i g).tookRead n m l v := by
    rw [State.tookRead, putSv_withNotices, State.putSv_putMirror]
  refine ⟨?_, ?_, ?_⟩
  · rintro rfl
    rw [form]
    refine tookRead_ends h hw hl hr hb undue quiet work busy keeps ((took nofun).trans ?_)
    rw [if_pos rfl, putSvRun_of (u := ⟨c, .reading d .stopped⟩) (by rw [tookRead_sv]), tookRead_putSv, tookRead_sv]
    rfl
  · rintro rfl early
    rw [form]
    refine tookRead_ends h hw hl hr hb undue quiet work busy keeps ((took nofun).trans ?_)
    rw [if_neg nofun, surveyNextDue_waits (x := .waiting) (q := s.readTaken i c.lt r) rfl early]
    rfl
  · rintro script rfl late h0 h1 len
    have script_eq : script = surveyScript b.address c := by
      unfold surveyScript
      cases hsel : c.selector with
      | none => rw [h0 hsel]; exact congrArg _ (readItems_eq len).symm
      | some v => rw [h1 v hsel]; exact congrArg (fun l => _ :: _ :: _ :: l) (readItems_eq len).symm
    rw [script_eq, form]
    have again : takeSurveyRead i n r (s.readTaken i c.lt r) = ((s.readTaken i c.lt r).putSeg i
        { (s.seg i).sees ⟨true, true⟩ with dueList := [n] }).tookRead n m l
          ⟨some ⟨c, .due ⟨s.timebase.time, s.timebase.time⟩⟩, fails, min ((s.sv n).overruns + 1) 255, w⟩ := by
      rw [took (by exact nofun), if_neg (by exact nofun),
        surveyNextDue_late (x := .waiting) (q := s.readTaken i c.lt r) rfl late
          (by rw [readTaken_seg (c := c)]; exact work.2.1), readTaken_seg (c := c)]
      rfl
    exact tookRead_again h hw hl hr hb hi undue quiet work busy keeps rfl again

end Sys2Proof.Machine
end

section
/-! The rounds of an examination (R45): each takes a QUEUED entry, so an examination ends where the next
round has nothing to do: O23. -/

namespace Sys2Proof.Machine

/-- The QUEUED entries of the RQ, counted. -/
def State.queuedCount (s : State) : Nat := s.rq.countP RqEntry.queued

/-! ### The RQ after postings and grants -/

theorem setRq_rq (q : List RqEntry) (s : State) : (setRq q s).rq = q := by
  unfold setRq
  split <;> rfl

/-- R135: posting takes entries from the RQ, and adds none. -/
theorem postItem_rq (it : PostItem) (s : State) : (postItem it s).rq.Sublist s.rq := by
  unfold postItem
  cases it with
  | entry tag =>
    dsimp only
    split
    · rw [setRq_rq]
      exact List.eraseP_sublist
    · exact List.Sublist.refl _
  | context c =>
    dsimp only
    split
    · split
      · exact List.Sublist.refl _
      · exact List.Sublist.refl _
    · exact List.Sublist.refl _

theorem postFrom_rq : ∀ (l : List PostItem) (s : State), (postFrom l s).rq.Sublist s.rq
  | [], _ => List.Sublist.refl _
  | it :: l, s => by
    rw [postFrom]
    split
    · exact (postFrom_rq l _).trans (postItem_rq it s)
    · exact List.Sublist.refl _

theorem placeSlots_rq (c : CtxId) (r : Request) : ∀ (l : List LiveTarget) (ks : List SlotId) (s : State),
    (placeSlots c r l ks s).rq = s.rq
  | [], _, _ => rfl
  | _ :: _, [], _ => rfl
  | t :: l, k :: ks, s => placeSlots_rq c r l ks (placeSlot c r t k s)

theorem offerSegments_rq (l : List LiveTarget) (s : State) : (offerSegments l s).rq = s.rq := by
  refine List.foldlRecOn (List.finRange 4) (motive := fun t : State => t.rq = s.rq) _ rfl fun t ht i _ => ?_
  split
  · rw [arbitrate_rq, ht]
  · exact ht

/-! ### Each round takes a QUEUED entry -/

theorem countP_map_lt {α : Type} {p : α → Bool} {f : α → α} {l : List α} {a : α} (ha : a ∈ l) (pa : p a = true)
    (fa : p (f a) = false) (h : ∀ x, p (f x) = true → p x = true) : (l.map f).countP p < l.countP p := by
  obtain ⟨l1, l2, rfl⟩ := List.append_of_mem ha
  have le (l : List α) : (l.map f).countP p ≤ l.countP p := by
    rw [List.countP_map]
    exact List.countP_mono_left fun x _ => h x
  have h1 := le l1
  have h2 := le l2
  simp only [List.map_append, List.map_cons, List.countP_append, List.countP_cons, pa, fa]
  simp only [if_true, Bool.false_eq_true, if_false]
  omega

/-- R38: a QUEUED entry that holds the tag is QUEUED no more. -/
theorem finishQueued_takes {s : State} {e : RqEntry} (f : RqFinish) (he : e ∈ s.rq) (hq : e.queued = true) :
    (finishQueued e.request.tag f s).queuedCount < s.queuedCount := by
  refine Nat.lt_of_le_of_lt (postFrom_rq _ _).countP_le (countP_map_lt he hq (by rw [if_pos ⟨rfl, hq⟩]; rfl) ?_)
  intro x hx
  split at hx
  · next c => exact c.2
  · exact hx

/-- R51: an admitted entry leaves the RQ. -/
theorem admitCandidate_takes {s : State} {e : RqEntry} (c : CtxId) (res : List (LtId × Resolution))
    (he : e ∈ s.rq) (hq : e.queued = true) : (admitCandidate e c res s).queuedCount < s.queuedCount := by
  obtain ⟨a, l1, l2, -, ha, hl, erased⟩ := List.exists_of_eraseP
    (p := fun y : RqEntry => y.request.tag == e.request.tag && y.queued) he (by simp [hq])
  have rq : (admitCandidate e c res s).rq = l1 ++ l2 := by
    rw [← erased]
    exact (offerSegments_rq _ _).trans ((placeSlots_rq _ _ _ _ _).trans (setRq_rq _ _))
  rw [State.queuedCount, State.queuedCount, rq, hl]
  simp at ha
  simp [ha]

theorem examineOnce_takes {s t : State} (h : examineOnce s = some t) : t.queuedCount < s.queuedCount := by
  unfold examineOnce at h
  split at h
  · cases h
  · next e he =>
    obtain ⟨mem, queued⟩ := candidate_mem he
    dsimp only at h
    split at h
    · cases h
      exact finishQueued_takes _ mem queued
    · split at h
      · split at h
        · cases h
          exact admitCandidate_takes _ _ mem queued
        · cases h
      · cases h

/-! ### The bound on the rounds is no bound -/

theorem examineUpTo_waits {s : State} (h : examineOnce s = none) : ∀ n, examineUpTo n s = s
  | 0 => rfl
  | n + 1 => by rw [examineUpTo, h]

theorem examineOnce_unqueued {s : State} (h : s.queuedCount = 0) : examineOnce s = none := by
  cases ho : examineOnce s with
  | none => rfl
  | some t => exact absurd (examineOnce_takes ho) (by omega)

theorem examineUpTo_ends : ∀ (n : Nat) (s : State), s.queuedCount ≤ n → examineOnce (examineUpTo n s) = none
  | 0, _, h => examineOnce_unqueued (Nat.le_zero.1 h)
  | n + 1, s, h => by
    rw [examineUpTo]
    split
    · next ho => exact ho
    · next t ho =>
      have takes := examineOnce_takes ho
      exact examineUpTo_ends n t (by omega)

theorem examineUpTo_enough : ∀ {n m : Nat} {s : State}, s.queuedCount ≤ n → s.queuedCount ≤ m →
    examineUpTo n s = examineUpTo m s
  | 0, m, s, hn, _ => (examineUpTo_waits (examineOnce_unqueued (Nat.le_zero.1 hn)) m).symm
  | n, 0, s, _, hm => examineUpTo_waits (examineOnce_unqueued (Nat.le_zero.1 hm)) n
  | n + 1, m + 1, s, hn, hm => by
    rw [examineUpTo, examineUpTo]
    split
    · rfl
    · next t ho =>
      have takes := examineOnce_takes ho
      exact examineUpTo_enough (by omega) (by omega)

theorem queuedCount_le (s : State) : s.queuedCount ≤ s.rq.length := List.countP_le_length

/-- R45: an examination goes on until the candidate waits or there is none. -/
theorem examine_ends (s : State) : examineOnce (examine s) = none := examineUpTo_ends _ s (queuedCount_le s)

theorem examine_next {s t : State} (h : examineOnce s = some t) : examine s = examine t := by
  have takes := examineOnce_takes h
  have bound := queuedCount_le s
  calc examine s
      = examineUpTo (s.rq.length - 1 + 1) s := by rw [Nat.sub_add_cancel (by omega)]; rfl
    _ = examineUpTo (s.rq.length - 1) t := by rw [examineUpTo, h]
    _ = examine t := examineUpTo_enough (by omega) (queuedCount_le t)

end Sys2Proof.Machine
end

section
/-! Admission (R51, R54, R57): the context filled, the slots taken, the references counted and the
operations placed in their pending lists: O23. -/

namespace Sys2Proof.Machine

/-! ### Placement in a pending list, once more (R61, R62) -/

theorem mem_insertAfterLast {p : SlotId → Bool} {x k : SlotId} : ∀ {l : List SlotId},
    k ∈ insertAfterLast p x l ↔ k = x ∨ k ∈ l
  | [] => by simp [insertAfterLast]
  | y :: l => by
    rw [insertAfterLast]
    split
    · rw [List.mem_cons, mem_insertAfterLast, List.mem_cons]
      exact or_left_comm
    · split
      · simp only [List.mem_cons]
        exact or_left_comm
      · exact List.mem_cons

theorem sublist_insertAfterLast {p : SlotId → Bool} (x : SlotId) : ∀ l : List SlotId,
    l.Sublist (insertAfterLast p x l)
  | [] => List.nil_sublist _
  | y :: l => by
    rw [insertAfterLast]
    split
    · exact (sublist_insertAfterLast x l).cons_cons y
    · split
      · exact (List.sublist_cons_self x l).cons_cons y
      · exact List.sublist_cons_self x _

theorem mem_placeIn {f : SlotId → Option OpSlot} {x k : SlotId} {lt : LtId} {p : Priority} {l : List SlotId} :
    k ∈ placeIn f x lt p l ↔ k = x ∨ k ∈ l := by
  cases p with
  | normal => rw [placeIn_normal, List.mem_append, List.mem_singleton, or_comm]
  | urgent => rw [placeIn_urgent, mem_insertAfterLast]

theorem sublist_placeIn (f : SlotId → Option OpSlot) (x : SlotId) (lt : LtId) (p : Priority) (l : List SlotId) :
    l.Sublist (placeIn f x lt p l) := by
  cases p with
  | normal => exact List.sublist_append_left l _
  | urgent => rw [placeIn_urgent]; exact sublist_insertAfterLast x l

/-! ### One slot taken (R51 steps 3 to 5) -/

/-- R57: the slot of live target `t` of request `r`, admitted into context `c`. -/
def LiveTarget.opSlot (t : LiveTarget) (c : CtxId) (r : Request) : OpSlot :=
  ⟨.pending, c, t.member, t.lt, t.seg, t.addr, r.kind, r.priority, 0, 0⟩

section
variable (c : CtxId) (r : Request) (t : LiveTarget) (k : SlotId) (s : State)

theorem placeSlot_only : placeSlot c r t k s =
    { s with
      slots := (placeSlot c r t k s).slots
      map := (placeSlot c r t k s).map
      segs := (placeSlot c r t k s).segs } := rfl

theorem placeSlot_slot (j : SlotId) : (placeSlot c r t k s).slot j =
    if k = j then some (t.opSlot c r) else s.slot j := State.slot_putSlot _ _ _ _

theorem placeSlot_entry (n : LtId) : (placeSlot c r t k s).entry n =
    { s.entry n with refCount := (s.entry n).refCount + if t.lt = n then 1 else 0 } := by
  refine (State.entry_putEntry _ _ _ _).trans ?_
  split
  · next e => rw [← e]; rfl
  · rfl

theorem placeSlot_seg (i : SegId) : (placeSlot c r t k s).seg i =
      { s.seg i with pendingList := ((placeSlot c r t k s).seg i).pendingList } ∧
    (s.seg i).pendingList.Sublist ((placeSlot c r t k s).seg i).pendingList ∧
    ∀ j, j ∈ ((placeSlot c r t k s).seg i).pendingList ↔ j ∈ (s.seg i).pendingList ∨ j = k ∧ t.seg = i := by
  by_cases e : t.seg = i
  · subst e
    have seg : (placeSlot c r t k s).seg t.seg = { s.seg t.seg with
      pendingList := placeIn (addRef t.lt (s.putSlot k (some (t.opSlot c r)))).slot k t.lt r.priority
        (s.seg t.seg).pendingList } := State.seg_putSeg_self _ _ _
    rw [seg]
    refine ⟨rfl, sublist_placeIn _ _ _ _ _, fun j => ?_⟩
    rw [mem_placeIn, or_comm]
    simp
  · rw [placeSlot_seg_ne c r t k s (Ne.symm e)]
    exact ⟨rfl, List.Sublist.refl _, fun j => by simp [e]⟩

end

/-! ### All the slots taken -/

/-- What taking slots for live targets, target by target, makes of `s`. -/
structure State.Placed (s v : State) (c : CtxId) (r : Request) (l : List (LiveTarget × SlotId)) : Prop where
  only : v = { s with slots := v.slots, map := v.map, segs := v.segs }
  kept : ∀ k, k ∉ l.map Prod.snd → v.slot k = s.slot k
  taken : ∀ p ∈ l, v.slot p.2 = some (p.1.opSlot c r)
  entry : ∀ n, v.entry n = { s.entry n with
    refCount := (s.entry n).refCount + if n ∈ l.map (·.1.lt) then 1 else 0 }
  seg : ∀ i, v.seg i = { s.seg i with pendingList := (v.seg i).pendingList } ∧
    (s.seg i).pendingList.Sublist (v.seg i).pendingList ∧
    ∀ k, k ∈ (v.seg i).pendingList ↔ k ∈ (s.seg i).pendingList ∨ ∃ p ∈ l, p.2 = k ∧ p.1.seg = i

theorem placeSlots_placed (c : CtxId) (r : Request) : ∀ (ts : List LiveTarget) (ks : List SlotId) (s : State),
    (ts.map (·.lt)).Nodup → ks.Nodup → s.Placed (placeSlots c r ts ks s) c r (ts.zip ks)
  | [], _, s, _, _ => ⟨rfl, fun _ _ => rfl, nofun, fun _ => by simp [placeSlots],
      fun i => ⟨rfl, List.Sublist.refl _, by simp [placeSlots]⟩⟩
  | _ :: _, [], s, _, _ => ⟨rfl, fun _ _ => rfl, nofun, fun _ => by simp [placeSlots],
      fun i => ⟨rfl, List.Sublist.refl _, by simp [placeSlots]⟩⟩
  | t :: ts, k :: ks, s, ht, hk => by
    obtain ⟨fresh, ht⟩ := List.nodup_cons.1 ht
    obtain ⟨other, hk⟩ := List.nodup_cons.1 hk
    obtain ⟨only, kept, taken, entry, seg⟩ := placeSlots_placed c r ts ks (placeSlot c r t k s) ht hk
    have notLater : k ∉ (ts.zip ks).map Prod.snd := fun h => by
      obtain ⟨p, hp, rfl⟩ := List.mem_map.1 h
      exact other (List.of_mem_zip (a := p.1) (b := p.2) hp).2
    have ltNotLater : t.lt ∉ (ts.zip ks).map (·.1.lt) := fun h => by
      obtain ⟨p, hp, e⟩ := List.mem_map.1 h
      exact fresh (List.mem_map.2 ⟨p.1, (List.of_mem_zip (a := p.1) (b := p.2) hp).1, e⟩)
    refine ⟨only, fun j hj => ?_, fun p hp => ?_, fun n => ?_, fun i => ?_⟩
    · obtain ⟨hne, hj⟩ := not_or.1 (mt List.mem_cons.2 hj)
      rw [placeSlots, kept j hj, placeSlot_slot, if_neg (Ne.symm hne)]
    · rcases List.mem_cons.1 hp with rfl | hp
      · rw [placeSlots, kept k notLater, placeSlot_slot, if_pos rfl]
      · exact taken p hp
    · rw [placeSlots, entry, placeSlot_entry]
      by_cases e : t.lt = n
      · subst e
        simp only [ltNotLater, List.zip_cons_cons, List.map_cons, List.mem_cons, true_or, if_true, if_false]
      · simp only [e, Ne.symm e, if_false, Nat.add_zero, List.zip_cons_cons, List.map_cons, List.mem_cons,
          false_or]
    · obtain ⟨s1, s2, s3⟩ := placeSlot_seg c r t k s i
      obtain ⟨v1, v2, v3⟩ := seg i
      refine ⟨?_, s2.trans v2, fun j => ?_⟩
      · rw [placeSlots, v1, s1]
      · rw [placeSlots, v3, s3]
        simp only [List.zip_cons_cons, List.mem_cons, exists_eq_or_imp, or_assoc, @eq_comm _ j]

end Sys2Proof.Machine
end

section
/-! One examination of the candidate (R46, R48 to R51): O23. -/

namespace Sys2Proof.Machine

/-! ### The targets of a request (R47 to R49) -/

theorem resolve_live {s : State} {k : Kind} {lt : LtId} {i : SegId} {a : BusAddr}
    (h : resolve s k lt = .live i a) : ∃ b, (s.entry lt).binding = some b ∧ b.segment = i ∧ b.address = a := by
  have on (b : Binding) (h : resolveOnSegment s b = .live i a) : b.segment = i ∧ b.address = a := by
    unfold resolveOnSegment at h
    split at h
    · cases h
    · cases h
    · cases h; exact ⟨rfl, rfl⟩
  unfold resolve at h
  split at h
  · cases h
  · next b hb =>
    refine ⟨b, hb, on b ?_⟩
    split at h
    · cases h
    · split at h
      · exact h
      · cases h
    · exact h

theorem targetsOf_eq (s : State) (r : Request) : targetsOf s r = s.named r := by
  unfold targetsOf State.named
  cases r.target <;> rfl

/-- The live targets are those the resolution finds, with their places. -/
theorem liveFrom_spec (s : State) (r : Request) : ∀ (l : List LtId) (m : Nat),
    (liveFrom m (l.map fun lt => (lt, resolve s r.kind lt))).map (fun t => (t.lt, t.member)) =
      (l.zipIdx m).filter (fun p => s.isLive r p.1) ∧
    ∀ t ∈ liveFrom m (l.map fun lt => (lt, resolve s r.kind lt)), resolve s r.kind t.lt = .live t.seg t.addr
  | [], _ => ⟨rfl, nofun⟩
  | lt :: l, m => by
    obtain ⟨same, live⟩ := liveFrom_spec s r l (m + 1)
    rw [List.map_cons, List.zipIdx_cons]
    cases h : resolve s r.kind lt with
    | live i a =>
      have on : s.isLive r lt = true := by rw [State.isLive, h]
      rw [List.filter_cons_of_pos (by exact on), ← same]
      refine ⟨rfl, fun t ht => ?_⟩
      rcases List.mem_cons.1 ht with rfl | ht
      · exact h
      · exact live t ht
    | failed o =>
      have off : ¬ s.isLive r lt = true := by rw [State.isLive, h]; exact nofun
      rw [List.filter_cons_of_neg (by exact off), ← same]
      exact ⟨rfl, live⟩

theorem named_nodup (s : State) (r : Request) : (s.named r).Nodup := by
  unfold State.named
  split
  · exact List.nodup_singleton _
  · exact (List.nodup_finRange 64).filter _

theorem memberOf_eq (s : State) (k : Kind) (n : LtId) : memberOf (n, resolve s k n) =
    match resolve s k n with
    | .live _ _ => ⟨n, none, 0, 0⟩
    | .failed o => ⟨n, some o, 0, 0⟩ := by
  unfold memberOf
  cases resolve s k n <;> rfl

theorem maskOf_maskMembers (m : Mask64) : maskOf (maskMembers m) = m := by
  refine BitVec.eq_of_getLsbD_eq fun i hi => Bool.eq_iff_iff.2 ((maskOf_getLsbD _ ⟨i, hi⟩).trans ?_)
  simp [maskMembers, BitVec.getLsbD_eq_getElem hi]

/-! ### One examination by its cases -/

theorem admissionFailure_single {r : Request} {n : LtId} {o : Outcome} (h : r.isGroup = false) :
    admissionFailure r [(n, .failed o)] = .of o := by
  rw [admissionFailure, h]
  rfl

theorem admissionFailure_group {r : Request} {res : List (LtId × Resolution)} (h : r.isGroup = true) :
    admissionFailure r res = .groupPolicyFailed := by
  unfold admissionFailure
  exact if_pos h

section
variable {s : State} {e : RqEntry} (h : candidate s = some e)
include h

theorem examineOnce_fails (none_live : liveFrom 0 (resolveAll s e.request) = []) :
    examineOnce s = some (failAtAdmission e (resolveAll s e.request) s) := by
  rw [examineOnce, h]
  dsimp only
  rw [none_live]
  rfl

theorem examineOnce_noContext (live : liveFrom 0 (resolveAll s e.request) ≠ [])
    (full : freeContext? s = none) : examineOnce s = none := by
  rw [examineOnce, h]
  dsimp only
  rw [if_neg (by rw [List.isEmpty_iff]; exact live)]
  simp only [full]

theorem examineOnce_context {c : CtxId} (live : liveFrom 0 (resolveAll s e.request) ≠ [])
    (free : freeContext? s = some c) : examineOnce s =
      if (liveFrom 0 (resolveAll s e.request)).length ≤ (freeSlots s).length then
        some (admitCandidate e c (resolveAll s e.request) s) else none := by
  rw [examineOnce, h]
  dsimp only
  rw [if_neg (by rw [List.isEmpty_iff]; exact live)]
  simp only [free]

end

theorem freeContext_none {s : State} (h : ∀ c, s.ctx c ≠ none) : freeContext? s = none :=
  List.find?_eq_none.2 fun c _ => by simpa [Option.isNone_iff_eq_none] using h c

/-- R51, R53: the free context of lowest index. -/
theorem freeContext_lowest {s : State} {c : CtxId} (h : s.ctx c = none) (hl : ∀ d < c, s.ctx d ≠ none) :
    freeContext? s = some c := by
  refine List.find?_eq_some_iff_getElem.2 ⟨by simp [h], c.val, by simp, by simp, fun j hj => ?_⟩
  have before := hl ⟨j, by omega⟩ hj
  simpa using Option.isSome_iff_ne_none.2 before

/-! ### The admission (R51) -/

/-- R54: the context as admission fills it. -/
theorem newContext_eq (s : State) (e : RqEntry) : newContext s e (resolveAll s e.request) =
    { request := e.request, acceptTime := e.acceptTime, deadlineTime := e.deadlineTime
      outstanding := (s.liveTargets e.request).length
      members := (s.named e.request).map fun n => match resolve s e.request.kind n with
        | .live _ _ => ⟨n, none, 0, 0⟩
        | .failed o => ⟨n, some o, 0, 0⟩
      result := none, cancelRequested := false
      policy := match e.request.target with
        | .lt _ => none
        | .group g => some (look s.groups g).policy
      deadlinePassed := e.deadlineTime.map fun _ => false
      finish := none } := by
  have count : (liveFrom 0 (resolveAll s e.request)).length = (s.liveTargets e.request).length := by
    rw [State.liveTargets, ← (liveFrom_spec s e.request _ 0).1, List.length_map, resolveAll, targetsOf_eq]
  have members : (resolveAll s e.request).map memberOf = (s.named e.request).map fun n =>
      match resolve s e.request.kind n with
      | .live _ _ => ⟨n, none, 0, 0⟩
      | .failed o => ⟨n, some o, 0, 0⟩ := by
    rw [resolveAll, targetsOf_eq, List.map_map]
    exact List.map_congr_left fun n _ => memberOf_eq s e.request.kind n
  have filled : newContext s e (resolveAll s e.request) = { newContext s e (resolveAll s e.request) with
      outstanding := (liveFrom 0 (resolveAll s e.request)).length
      members := (resolveAll s e.request).map memberOf } := rfl
  rw [count, members] at filled
  exact filled

/-- R51 steps 1 and 2: the candidate has left the RQ and its context is filled. -/
def State.seated (s : State) (e : RqEntry) (c : CtxId) (rq : List RqEntry) : State :=
  State.putCtx { s with rq := rq, irq := { s.irq with rqSpace := s.irq.rqSpace || s.rq.length == 32 } } c
    (some (newContext s e (resolveAll s e.request)))

theorem admitCandidate_eq {s : State} {e : RqEntry} {l1 l2 : List RqEntry} (c : CtxId)
    (hl : s.rq = l1 ++ e :: l2) (h1 : ∀ x ∈ l1, x.request.tag ≠ e.request.tag) (hq : e.queued = true) :
    admitCandidate e c (resolveAll s e.request) s = offerSegments (liveFrom 0 (resolveAll s e.request))
      (placeSlots c e.request (liveFrom 0 (resolveAll s e.request)) (freeSlots s)
        (s.seated e c (l1 ++ l2))) := by
  have erased : (s.rq.eraseP fun y => y.request.tag == e.request.tag && y.queued) = l1 ++ l2 := by
    rw [hl]
    exact eraseP_middle (fun x hx => by simp [h1 x hx]) (by simp [hq])
  rw [admitCandidate, erased, setRq_shorter (by rw [hl]; simp)]
  rfl

/-- The live targets' places are those of the list `liveFrom` makes. -/
theorem liveTargets_eq (s : State) (r : Request) :
    s.liveTargets r = (liveFrom 0 (resolveAll s r)).map fun t => (t.lt, t.member) := by
  rw [State.liveTargets, ← (liveFrom_spec s r _ 0).1, resolveAll, targetsOf_eq]

theorem liveFrom_resolved {s : State} {r : Request} {t : LiveTarget} (h : t ∈ liveFrom 0 (resolveAll s r)) :
    ∃ b, (s.entry t.lt).binding = some b ∧ b.segment = t.seg ∧ b.address = t.addr :=
  resolve_live ((liveFrom_spec s r (targetsOf s r) 0).2 t h)

theorem liveFrom_nodup (s : State) (r : Request) :
    ((liveFrom 0 (resolveAll s r)).map (·.lt)).Nodup := by
  have lts : (liveFrom 0 (resolveAll s r)).map (·.lt) = (s.liveTargets r).map Prod.fst := by
    rw [liveTargets_eq, List.map_map]
    rfl
  have sub := (List.filter_sublist (l := (s.named r).zipIdx) (p := fun p => s.isLive r p.1)).map Prod.fst
  rw [List.zipIdx_map_fst] at sub
  rw [lts]
  exact (named_nodup s r).sublist sub

/-- R51: the targets and the slots that go together. -/
theorem mem_zip_iff {α β : Type} {l : List α} {m : List β} {a : α} {b : β} :
    (a, b) ∈ l.zip m ↔ ∃ j : Nat, l[j]? = some a ∧ m[j]? = some b := by
  rw [List.mem_iff_getElem?]
  exact exists_congr fun j => List.getElem?_zip_eq_some

theorem not_mem_zip_beyond {α β : Type} {l : List α} {m : List β} {j : Nat} {b : β} (nodup : m.Nodup)
    (hb : m[j]? = some b) (beyond : l.length ≤ j) : b ∉ (l.zip m).map Prod.snd := fun h => by
  obtain ⟨⟨a, b⟩, hp, rfl⟩ := List.mem_map.1 h
  obtain ⟨k, ha, hk⟩ := mem_zip_iff.1 hp
  obtain ⟨inl, -⟩ := List.getElem?_eq_some_iff.1 ha
  obtain ⟨inm, -⟩ := List.getElem?_eq_some_iff.1 hk
  have same := (List.getElem?_inj inm nodup).1 (hk.trans hb.symm)
  omega

theorem liveTargets_place {s : State} {r : Request} {j : Nat} {n : LtId} {m : Nat}
    (h : (s.liveTargets r)[j]? = some (n, m)) :
    ∃ t, (liveFrom 0 (resolveAll s r))[j]? = some t ∧ t.lt = n ∧ t.member = m := by
  rw [liveTargets_eq, List.getElem?_map, Option.map_eq_some_iff] at h
  obtain ⟨t, ht, same⟩ := h
  cases same
  exact ⟨t, ht, rfl, rfl⟩

/-- R51 step 6: the segments that received a slot, by the entries of the live targets. -/
theorem offerSegments_eq (s : State) (r : Request) (u : State) :
    offerSegments (liveFrom 0 (resolveAll s r)) u = (List.finRange 4).foldl (fun t i =>
      if (s.liveTargets r).any fun p => (s.entry p.1).binding.map (·.segment) == some i then arbitrate i t
      else t) u := by
  have same (i : SegId) : ((s.liveTargets r).any fun p => (s.entry p.1).binding.map (·.segment) == some i) =
      (liveFrom 0 (resolveAll s r)).any (·.seg == i) := by
    rw [liveTargets_eq, List.any_map, Bool.eq_iff_iff, List.any_eq_true, List.any_eq_true]
    refine exists_congr fun t => and_congr_right fun ht => ?_
    obtain ⟨b, hb, hs, -⟩ := liveFrom_resolved ht
    simp [hb, hs]
  simp only [offerSegments, same]

/-- Settles O23: the rounds end, and each is a failure at admission, a wait, or an admission. -/
theorem examinationOfCandidate : Obligations.ExaminationOfCandidate := by
  refine ⟨examine_ends, fun s t => examine_next, fun s h => by rw [examineOnce, h], fun s e h law => ?_⟩
  obtain ⟨mem, queued⟩ := candidate_mem h
  obtain ⟨T, hT⟩ : ∃ T, T = liveFrom 0 (resolveAll s e.request) := ⟨_, rfl⟩
  have live_eq := liveTargets_eq s e.request
  rw [← hT] at live_eq
  have size : (s.liveTargets e.request).length = T.length := by rw [live_eq, List.length_map]
  dsimp only
  refine ⟨fun none_live => ?_, fun some_live waits => ?_, fun c some_live room free lowest => ?_⟩
  · have empty : liveFrom 0 (resolveAll s e.request) = [] := by
      rw [← hT]
      exact List.map_eq_nil_iff.1 (live_eq.symm.trans none_live)
    refine ⟨fun n o ht failed => ?_, fun g ht => ?_⟩
    · have single : resolveAll s e.request = [(n, .failed o)] := by
        rw [resolveAll, targetsOf, ht]
        exact congrArg (fun x => [(n, x)]) failed
      have alone : e.request.isGroup = false := by rw [Request.isGroup, ht]
      rw [examineOnce_fails h empty, failAtAdmission, single, admissionFailure_single alone, alone]
      rfl
    · have all : (resolveAll s e.request).map (·.1) = maskMembers (look s.groups g).members := by
        rw [resolveAll, targetsOf, ht, List.map_map]
        exact List.map_id _
      have grouped : e.request.isGroup = true := by rw [Request.isGroup, ht]
      rw [examineOnce_fails h empty, failAtAdmission, all, admissionFailure_group grouped, grouped,
        maskOf_maskMembers]
      rfl
  · have nonempty : liveFrom 0 (resolveAll s e.request) ≠ [] := fun c => some_live (by rw [live_eq, hT, c]; rfl)
    rcases waits with full | short
    · exact examineOnce_noContext h nonempty (freeContext_none full)
    · cases found : freeContext? s with
      | none => exact examineOnce_noContext h nonempty found
      | some c =>
        exact (examineOnce_context h nonempty found).trans
          (if_neg (by rw [← hT, ← size]; exact Nat.not_le.2 short))
  · have nonempty : liveFrom 0 (resolveAll s e.request) ≠ [] := fun c => some_live (by rw [live_eq, hT, c]; rfl)
    obtain ⟨l1, l2, hl, h1, -⟩ := law.split mem
    obtain ⟨u, hu⟩ : ∃ u, u = placeSlots c e.request T (freeSlots s) (s.seated e c (l1 ++ l2)) := ⟨_, rfl⟩
    have placed := placeSlots_placed c e.request T (freeSlots s) (s.seated e c (l1 ++ l2))
      (hT ▸ liveFrom_nodup s e.request) ((List.nodup_finRange 24).filter _)
    rw [← hu] at placed
    obtain ⟨only, kept, taken, entry, seg⟩ := placed
    refine ⟨u, l1, l2, hl, ?_, fun k o hk => ?_, fun j k hj => ⟨fun beyond => ?_, fun n m b hn hb => ?_⟩,
      fun n => ?_, fun i => ?_, ?_⟩
    · refine only.trans ?_
      rw [State.seated, newContext_eq]
      rfl
    · rw [kept k fun hm => ?_]
      · exact hk
      · obtain ⟨p, hp, rfl⟩ := List.mem_map.1 hm
        have := (List.of_mem_zip (a := p.1) (b := p.2) hp).2
        simp [freeSlots, hk] at this
    · rw [kept k fun hm => ?_]
      · have mem := (List.mem_filter.1 (List.mem_of_getElem? hj)).2
        exact Option.isNone_iff_eq_none.1 mem
      · exact not_mem_zip_beyond ((List.nodup_finRange 24).filter _) hj (size ▸ beyond) hm
    · obtain ⟨t, ht, rfl, rfl⟩ := liveTargets_place hn
      rw [← hT] at ht
      obtain ⟨b', hb', seg', addr⟩ := liveFrom_resolved (hT ▸ List.mem_of_getElem? ht)
      cases hb'.symm.trans hb
      rw [taken (t, k) (mem_zip_iff.2 ⟨j, ht, hj⟩), LiveTarget.opSlot, ← seg', ← addr]
    · have lts : (T.zip (freeSlots s)).map (·.1.lt) = (s.liveTargets e.request).map (·.1) := by
        have fits : T.length ≤ (freeSlots s).length := size ▸ room
        calc (T.zip (freeSlots s)).map (·.1.lt)
            = ((T.zip (freeSlots s)).map Prod.fst).map (·.lt) := (List.map_map ..).symm
          _ = (s.liveTargets e.request).map (·.1) := by
            rw [List.map_fst_zip fits, live_eq, List.map_map]
            rfl
      rw [entry, lts]
      rfl
    · obtain ⟨same, sub, mem⟩ := seg i
      refine ⟨same, sub, fun k => (mem k).trans (or_congr Iff.rfl ⟨?_, ?_⟩)⟩
      · rintro ⟨⟨t, k⟩, hp, rfl, rfl⟩
        obtain ⟨j, ht, hk⟩ := mem_zip_iff.1 hp
        obtain ⟨b, hb, on, -⟩ := liveFrom_resolved (hT ▸ List.mem_of_getElem? ht)
        exact ⟨j, t.lt, t.member, b, hk, by rw [live_eq, List.getElem?_map, ht]; rfl, hb, on⟩
      · rintro ⟨j, n, m, b, hk, hn, hb, on⟩
        obtain ⟨t, ht, rfl, rfl⟩ := liveTargets_place hn
        rw [← hT] at ht
        obtain ⟨b', hb', seg', -⟩ := liveFrom_resolved (hT ▸ List.mem_of_getElem? ht)
        cases hb'.symm.trans hb
        exact ⟨(t, k), mem_zip_iff.2 ⟨j, ht, hk⟩, rfl, seg'.symm.trans on⟩
    · rw [examineOnce_context h nonempty (freeContext_lowest free lowest), if_pos (by rw [← hT, ← size]; exact room),
        admitCandidate_eq c hl h1 queued, ← hT, ← hu, hT, offerSegments_eq]

end Sys2Proof.Machine
end

section
/-! Engine reset (R186): what its parts leave of queues, slots, records and segments: O21. -/

namespace Sys2Proof.Machine

/-! ### Work on the map, the survey, the NQ and the due lists alone -/

/-- Of `s`, the map, the survey entries, the NQ and the due lists have changed at most. -/
structure State.MapSide (s t : State) : Prop where
  rest : t = { s with map := t.map, survey := t.survey, notices := t.notices, segs := t.segs }
  seg : ∀ i, t.seg i = { s.seg i with dueList := (t.seg i).dueList }

theorem State.MapSide.refl (s : State) : s.MapSide s := ⟨rfl, fun _ => rfl⟩

theorem State.MapSide.trans {s t u : State} (h : s.MapSide t) (k : t.MapSide u) : s.MapSide u :=
  ⟨by rw [k.rest, h.rest], fun i => by rw [k.seg i, h.seg i]⟩

theorem MapSide.putEntry (s : State) (lt : LtId) (e : MapEntry) : s.MapSide (s.putEntry lt e) :=
  ⟨rfl, fun _ => rfl⟩

theorem MapSide.putSvRun (s : State) (n : SvId) (r : SurveyRun) : s.MapSide (s.putSvRun n r) :=
  ⟨rfl, fun _ => rfl⟩

theorem MapSide.putDueList (s : State) (i : SegId) (l : List SvId) :
    s.MapSide (s.putSeg i { s.seg i with dueList := l }) := by
  refine ⟨rfl, fun j => ?_⟩
  rw [State.seg_putSeg]
  split
  · next e => rw [e]
  · rfl

theorem MapSide.postNotice (b : NoticeBody) (s : State) : s.MapSide (postNotice b s) := by
  unfold Machine.postNotice
  split
  · exact ⟨rfl, fun _ => rfl⟩
  · exact ⟨rfl, fun _ => rfl⟩

theorem MapSide.emptyNotices (s : State) : s.MapSide (emptyNotices s) := ⟨rfl, fun _ => rfl⟩

theorem MapSide.leaveDue (n : SvId) (s : State) : s.MapSide (leaveDue n s) := by
  unfold Machine.leaveDue
  split
  · exact .refl s
  · exact MapSide.putDueList s _ _

theorem MapSide.joinDue (n : SvId) (i : SegId) (d : DueTime) (s : State) : s.MapSide (joinDue n i d s) :=
  (MapSide.putSvRun s n _).trans (MapSide.putDueList _ i _)

theorem MapSide.setDueTime (n : SvId) (i : SegId) (since interval : Word16) (s : State) :
    s.MapSide (setDueTime n i since interval s) := by
  unfold Machine.setDueTime
  dsimp only
  split
  · exact MapSide.joinDue n i _ s
  · exact MapSide.putSvRun s n _

theorem MapSide.holdEntry (n : SvId) (s : State) : s.MapSide (holdEntry n s) := by
  unfold Machine.holdEntry
  split
  · exact MapSide.putSvRun s n _
  · exact (MapSide.leaveDue n s).trans (MapSide.putSvRun _ n _)
  · exact .refl s

theorem MapSide.disableEntry (n : SvId) (s : State) : s.MapSide (disableEntry n s) := by
  unfold Machine.disableEntry
  split
  · exact MapSide.putSvRun s n _
  · exact MapSide.putSvRun s n _
  · exact MapSide.holdEntry n s

theorem MapSide.releaseEntry (n : SvId) (s : State) : s.MapSide (releaseEntry n s) := by
  unfold Machine.releaseEntry
  split
  · split
    · split
      · exact MapSide.setDueTime n _ _ _ s
      · exact .refl s
    · exact .refl s
  · exact .refl s

theorem MapSide.resetSurveyEntry (n : SvId) (s : State) : s.MapSide (resetSurveyEntry n s) := by
  unfold Machine.resetSurveyEntry
  split
  · exact MapSide.putSvRun s n _
  · exact MapSide.putSvRun s n _
  · exact MapSide.putSvRun s n _
  · exact .refl s

theorem MapSide.foldl {α : Type} {f : α → State → State} (h : ∀ (a : α) (s : State), s.MapSide (f a s)) :
    ∀ (l : List α) (s : State), s.MapSide (l.foldl (fun t a => f a t) s)
  | [], s => .refl s
  | a :: l, s => (h a s).trans (MapSide.foldl h l (f a s))

theorem MapSide.ite {p : Prop} [Decidable p] {s t : State} (h : s.MapSide t) :
    s.MapSide (if p then t else s) := by
  split
  · exact h
  · exact .refl s

theorem MapSide.holdTarget (lt : LtId) (s : State) : s.MapSide (holdTarget lt s) :=
  MapSide.foldl (fun n s => MapSide.ite (MapSide.holdEntry n s)) _ s

theorem MapSide.releaseTarget (lt : LtId) (s : State) : s.MapSide (releaseTarget lt s) :=
  MapSide.foldl (fun n s => MapSide.ite (MapSide.releaseEntry n s)) _ s

theorem MapSide.releaseSegment (i : SegId) (s : State) : s.MapSide (releaseSegment i s) :=
  MapSide.foldl (fun n s => MapSide.ite (MapSide.releaseEntry n s)) _ s

theorem MapSide.orphanTarget (lt : LtId) (s : State) : s.MapSide (orphanTarget lt s) :=
  MapSide.foldl (fun n s => MapSide.ite ((MapSide.leaveDue n s).trans (MapSide.putSvRun _ n _))) _ s

theorem MapSide.completeRetirement (lt : LtId) (b : Binding) (post : Bool) (s : State) :
    s.MapSide (completeRetirement lt b post s) := by
  have freed := (MapSide.orphanTarget lt s).trans (MapSide.putEntry _ lt .free)
  unfold Machine.completeRetirement
  dsimp only
  split
  · exact freed.trans (MapSide.postNotice _ _)
  · exact freed

theorem MapSide.resetMapEntry (lt : LtId) (s : State) : s.MapSide (resetMapEntry lt s) := by
  unfold Machine.resetMapEntry
  dsimp only
  split
  · exact MapSide.putEntry s lt _
  · have counted := MapSide.putEntry s lt { s.entry lt with refCount := 0 }
    split
    · split
      · exact counted.trans (MapSide.completeRetirement lt _ _ _)
      · exact counted
    · exact counted

theorem MapSide.resetMap (s : State) : s.MapSide (resetMap s) := MapSide.foldl MapSide.resetMapEntry _ s

/-! ### Queues, slots and lists stay empty -/

/-- DISABLED or FAULTED. -/
def SegState.isOff : SegState → Prop
  | .disabled | .faulted _ => True
  | _ => False

/-- In `u` the RQ and the pending lists are empty, CONSEC_HOST is 0 and the alert collectors are clear; slots,
records and causes are those of `q`, and what is DISABLED or FAULTED in `q` is so in `u`. -/
structure State.Cleared (q u : State) : Prop where
  rq : u.rq = []
  slots : u.slots = q.slots
  completion : u.completion = q.completion
  irq : u.irq = q.irq
  lists : ∀ i, (u.seg i).pendingList = []
  consec : ∀ i, (u.seg i).consecHost = 0
  alert : ∀ i, (u.seg i).alert = .cleared
  off : ∀ i, (q.seg i).state.isOff → (u.seg i).state = (q.seg i).state

theorem isIdle_on {st : SegState} (h : st.isIdle = true) : ¬ st.isOff := by
  cases st with
  | disabled => exact nomatch h
  | faulted r => exact nomatch h
  | idle | recovering _ | busy _ => exact id

section
variable {q u v : State} {i : SegId}

theorem State.Cleared.mapSide (h : q.Cleared u) (k : u.MapSide v) : q.Cleared v where
  rq := by rw [k.rest]; exact h.rq
  slots := by rw [k.rest]; exact h.slots
  completion := by rw [k.rest]; exact h.completion
  irq := by rw [k.rest]; exact h.irq
  lists i := by rw [k.seg]; exact h.lists i
  consec i := by rw [k.seg]; exact h.consec i
  alert i := by rw [k.seg]; exact h.alert i
  off i hi := by rw [k.seg]; exact h.off i hi

/-- A segment that is DISABLED or FAULTED is to keep its state. -/
theorem State.Cleared.putSeg {g : Segment} (h : q.Cleared u) (on : ¬ (u.seg i).state.isOff ∨ g.state = (u.seg i).state)
    (hl : g.pendingList = []) (hc : g.consecHost = 0) (ha : g.alert = .cleared) :
    q.Cleared (u.putSeg i g) where
  rq := h.rq
  slots := h.slots
  completion := h.completion
  irq := h.irq
  lists j := by rw [State.seg_putSeg]; split; exacts [hl, h.lists j]
  consec j := by rw [State.seg_putSeg]; split; exacts [hc, h.consec j]
  alert j := by rw [State.seg_putSeg]; split; exacts [ha, h.alert j]
  off j hj := by
    rw [State.seg_putSeg]
    split
    · next e =>
      subst e
      rcases on with on | same
      · exact absurd (h.off i hj ▸ hj) on
      · exact same.trans (h.off i hj)
    · exact h.off j hj

/-- A change that keeps lists, CONSEC_HOST and collector. -/
theorem State.Cleared.putState (h : q.Cleared u) (on : ¬ (u.seg i).state.isOff) (st : SegState) (free : Bool) :
    q.Cleared (u.putSeg i { u.seg i with state := st, busFree := free }) :=
  h.putSeg (.inl on) (h.lists i) (h.consec i) (h.alert i)

theorem State.Cleared.examined (h : q.Cleared u) : q.Cleared (examine u) := by
  rw [examine_noneQueued fun e he => by rw [h.rq] at he; cases he]
  exact h

/-! ### The work in flight (R98, R130) -/

/-- With an empty RQ there is nothing to examine. -/
theorem State.MapSide.examined (k : u.MapSide v) (hq : u.rq = []) : u.MapSide (examine v) := by
  have rq : v.rq = [] := by
    rw [k.rest]
    exact hq
  rw [examine_noneQueued fun e he => by rw [rq] at he; cases he]
  exact k

theorem MapSide.isolate (lt : LtId) (hq : u.rq = []) (hl : ∀ i, (u.seg i).pendingList = []) :
    u.MapSide (isolate lt u) := by
  unfold Machine.isolate
  split
  · exact .refl u
  · next b hb =>
    have isolated := MapSide.putEntry u lt { u.entry lt with binding := some { b with state := .isolated } }
    have nothing : isolationEnds lt b.segment
        (u.putEntry lt { u.entry lt with binding := some { b with state := .isolated } }) = [] := by
      rw [isolationEnds, isolated.seg, hl]
      rfl
    dsimp only
    rw [nothing]
    exact ((isolated.trans (MapSide.holdTarget lt _)).trans (MapSide.postNotice _ _)).examined hq

theorem MapSide.mapTakes (c : Current) (r : AttemptResult) (hq : u.rq = []) : u.MapSide (mapTakes c r u) := by
  unfold Machine.mapTakes
  split
  · exact .refl u
  · next lt _ =>
    have counted : u.MapSide (countOutcome lt r u) := MapSide.ite (MapSide.putEntry u lt _)
    dsimp only
    split
    · unfold probeReinstates
      split
      · split
        · exact (counted.trans (((MapSide.putEntry _ lt _).trans (MapSide.releaseTarget lt _)).trans
            (MapSide.postNotice _ _))).examined hq
        · exact counted
      · exact counted
    · exact counted

theorem State.Cleared.endWithoutOwner (c : Current) (r : AttemptResult) (h : q.Cleared u) :
    u.MapSide (endWithoutOwner c r u) := by
  have taken := MapSide.mapTakes c r h.rq
  have after := h.mapSide taken
  unfold Machine.endWithoutOwner Machine.isolateIf
  cases c.lt with
  | none => exact taken
  | some lt =>
    dsimp only
    split
    · exact taken.trans (MapSide.isolate lt after.rq after.lists)
    · exact taken

theorem State.Cleared.putAlert (i : SegId) (h : q.Cleared u) : q.Cleared (putAlert i .cleared u) :=
  h.putSeg (.inr rfl) (h.lists i) (h.consec i) rfl

theorem State.Cleared.completeDisable (h : q.Cleared u) (on : ¬ (u.seg i).state.isOff) :
    q.Cleared (completeDisable i u) := by
  obtain ⟨w, hw⟩ : ∃ w, w = u.putSeg i { u.seg i with state := .disabled, consecHost := 0, busFree := false } :=
    ⟨_, rfl⟩
  have disabled : q.Cleared w := by
    rw [hw]
    exact h.putSeg (.inl on) (h.lists i) rfl (h.alert i)
  have held := disabled.mapSide (MapSide.foldl
    (f := fun n s => if s.svSeg n = some i then disableEntry n s else s)
    (fun n s => MapSide.ite (MapSide.disableEntry n s)) (List.finRange 32) w)
  unfold Machine.completeDisable
  dsimp only
  rw [← hw, disabled.lists, endEach]
  exact (held.putAlert i).examined

theorem State.Cleared.afterResetEnd {c : Current} {r : AttemptResult} (h : q.Cleared u)
    (on : ¬ (u.seg i).state.isOff) : q.Cleared (afterResetEnd i c r u) := by
  unfold Machine.afterResetEnd
  split
  · exact h.completeDisable on
  · split
    · exact h.putState on _ _
    · exact h.putState on _ _

/-- R130: a transaction that ends within the reset. -/
theorem State.Cleared.endsWithin {c : Current} {r : AttemptResult} (h : q.Cleared u)
    (on : ¬ (u.seg i).state.isOff) : q.Cleared (Machine.afterResetEnd i c r (Machine.endWithoutOwner c r u)) := by
  have side := h.endWithoutOwner c r
  refine (h.mapSide side).afterResetEnd ?_
  rw [side.seg]
  exact on

theorem State.Cleared.resetEngine (i : SegId) (h : q.Cleared u) : q.Cleared (resetEngine i u) := by
  unfold Machine.resetEngine State.segState
  cases st : (u.seg i).state with
  | disabled => exact h
  | faulted r => exact h
  | idle => exact h.putSeg (.inr rfl) (h.lists i) (h.consec i) (h.alert i)
  | recovering r => exact h.putState (by rw [st]; exact id) _ _
  | busy c =>
    have on : ¬ (u.seg i).state.isOff := by rw [st]; exact id
    dsimp only
    cases c.phase with
    | waitFree => exact h.endsWithin on
    | stopping r => exact h.endsWithin on
    | transfer => exact h.putState on _ _

/-! ### The grants of a reset (R92) -/

theorem choose_noSlot (h : ∀ i, (u.seg i).pendingList = []) (k : SlotId) : choose i u ≠ some (.host k) := by
  have none : eligible i u = none := by rw [eligible, h]; rfl
  have host : chooseHostFirst i u ≠ some (.host k) := by
    unfold chooseHostFirst
    rw [none]
    cases (u.seg i).dueList.head? with
    | none => exact nofun
    | some n => exact nofun
  unfold choose
  dsimp only
  split
  · exact nofun
  · split
    · split
      · exact nofun
      · exact host
    · exact host

theorem State.Cleared.granted {g : Segment} (h : q.Cleared u) (on : ¬ (u.seg i).state.isOff)
    (hl : g.pendingList = []) (hc : g.consecHost = 0) (ha : g.alert = .cleared) (w : Work) (lt : Option LtId)
    (script : List BusItem) : q.Cleared (u.putSeg i (g.granted w lt script)) := by
  unfold Segment.granted
  split
  · exact h.putSeg (.inl on) hl hc ha
  · exact h.putSeg (.inl on) hl hc ha

theorem State.Cleared.grantAlert (h : q.Cleared u) (on : ¬ (u.seg i).state.isOff) :
    q.Cleared (grant i .alert u) := by
  have consec : (if (u.seg i).dueList = [] then 0 else (u.seg i).consecHost) = 0 := by
    rw [h.consec]
    exact ite_self 0
  rw [grant_alert, consec]
  exact h.granted (g := { u.seg i with consecHost := 0 }) on (h.lists i) rfl (h.alert i) _ _ _

theorem State.Cleared.putConsecHost (h : q.Cleared u) : q.Cleared (Machine.putConsecHost i 0 u) :=
  h.putSeg (.inr rfl) (h.lists i) rfl (h.alert i)

theorem State.Cleared.grantSurvey {n : SvId} (h : q.Cleared u) (on : ¬ (u.seg i).state.isOff) :
    q.Cleared (grant i (.survey n) u) := by
  unfold grant Machine.grantSurvey
  dsimp only
  split
  · next u' d hs hd =>
    split
    · next b hb =>
      obtain ⟨w, hw⟩ : ∃ w, w = addRef u'.conf.lt ((Machine.putConsecHost i 0 (leaveDue n u)).putSvRun n
        (.reading d .waiting)) := ⟨_, rfl⟩
      have left := h.mapSide (MapSide.leaveDue n u)
      have cleared : q.Cleared w := by
        rw [hw]
        exact left.putConsecHost.mapSide
          ((MapSide.putSvRun _ n _).trans (MapSide.putEntry _ _ _))
      have still : (w.seg i).state = (u.seg i).state := by
        rw [hw, addRef, State.seg_putEntry_read, State.seg_putSvRun_read, Machine.putConsecHost, State.seg_putSeg_self,
          (MapSide.leaveDue n u).seg]
      rw [← hw, beginWork_eq]
      exact cleared.granted (still ▸ on) (cleared.lists i) (cleared.consec i) (cleared.alert i) _ _ _
    · exact h
  · exact h

theorem State.Cleared.arbitrate (i : SegId) (h : q.Cleared u) : q.Cleared (arbitrate i u) := by
  unfold Machine.arbitrate State.segState
  split
  · next idle =>
    have on : ¬ (u.seg i).state.isOff := isIdle_on idle
    split
    · exact h.putState on _ _
    · split
      · next c hc =>
        cases c with
        | alert => exact h.grantAlert on
        | survey n => exact h.grantSurvey on
        | host k => exact absurd hc (choose_noSlot h.lists k)
      · exact h
  · exact h

end

end Sys2Proof.Machine
end

section
/-! Engine reset, whatever the work in flight (R18, R42, R70, R98, R146, R167, R176): O21. -/

namespace Sys2Proof.Machine

/-! ### The queues (R42, R70, R146) -/

theorem emptyQueues_eq (s : State) : emptyQueues s = { s with
    rq := [], irq := { s.irq with rqSpace := s.irq.rqSpace || s.rq.length == 32 }, paused := false
    contexts := Vector.replicate 16 none, slots := Vector.replicate 24 none
    completion := { s.completion with posting := [], cq := [] } } := by
  have taken : setRq [] s = { s with
      rq := [], irq := { s.irq with rqSpace := s.irq.rqSpace || s.rq.length == 32 } } := by
    by_cases h : s.rq = []
    · rw [setRq, h]
      simp [Config.rqCapacity]
    · exact setRq_shorter (List.length_pos_iff.2 h)
  rw [emptyQueues, taken]

/-- The RQ, the lists and the collectors as the reset of the segments leaves them. -/
def State.emptied (s : State) : State :=
  { forSurvey resetSurveyEntry (emptyQueues s) with
    segs := (forSurvey resetSurveyEntry (emptyQueues s)).segs.map emptySegment }

theorem forSurvey_reset_side (s : State) : s.MapSide (forSurvey resetSurveyEntry s) :=
  MapSide.foldl MapSide.resetSurveyEntry _ s

theorem emptySegment_dueList (g : Segment) (l : List SvId) :
    emptySegment { g with dueList := l } = emptySegment g := rfl

theorem emptied_seg (s : State) (i : SegId) : s.emptied.seg i = emptySegment (s.seg i) := by
  refine (look_map _ _ i).trans ?_
  have side := (forSurvey_reset_side (emptyQueues s)).seg i
  have same : (emptyQueues s).seg i = s.seg i := by rw [emptyQueues_eq]; rfl
  rw [same] at side
  change emptySegment ((forSurvey resetSurveyEntry (emptyQueues s)).seg i) = _
  rw [side, emptySegment_dueList]

theorem emptied_cleared (s : State) : (emptyQueues s).Cleared s.emptied where
  rq := by
    rw [State.emptied, (forSurvey_reset_side _).rest, emptyQueues_eq]
  slots := by rw [State.emptied, (forSurvey_reset_side _).rest]
  completion := by rw [State.emptied, (forSurvey_reset_side _).rest]
  irq := by rw [State.emptied, (forSurvey_reset_side _).rest]
  lists i := by rw [emptied_seg]; rfl
  consec i := by rw [emptied_seg]; rfl
  alert i := by rw [emptied_seg]; rfl
  off i _ := by
    rw [emptied_seg, emptyQueues_eq]
    rfl

/-! ### The reset as a whole -/

theorem State.Cleared.forSegs {q : State} {f : SegId → State → State}
    (h : ∀ i u, q.Cleared u → q.Cleared (f i u)) {u : State} (hu : q.Cleared u) : q.Cleared (forSegs f u) :=
  List.foldlRecOn (List.finRange 4) (motive := fun t : State => q.Cleared t) _ hu fun t ht i _ => h i t ht

theorem State.Cleared.resetRelease {q u : State} (old : State) (i : SegId) (h : q.Cleared u) :
    q.Cleared (resetRelease old i u) := by
  unfold Machine.resetRelease
  split
  · exact h.mapSide (MapSide.releaseSegment i u)
  · exact h

theorem State.Cleared.resetOpportunity {q u : State} (old : State) (i : SegId) (h : q.Cleared u) :
    q.Cleared (resetOpportunity old i u) := by
  unfold Machine.resetOpportunity
  split
  · exact h.arbitrate i
  · exact h

theorem engineReset_cleared (s : State) : (emptyQueues s).Cleared (engineReset s) := by
  have engines := (emptied_cleared s).forSegs fun i _ h => h.resetEngine i
  have noted := engines.mapSide ((MapSide.resetMap _).trans (MapSide.emptyNotices _))
  have released := noted.forSegs fun i _ h => h.resetRelease s i
  exact released.forSegs fun i _ h => h.resetOpportunity s i

/-! ### The NQ (R176) -/

theorem releaseEntry_notices (n : SvId) (s : State) : (releaseEntry n s).notices = s.notices := by
  unfold releaseEntry
  split
  · split
    · split
      · unfold setDueTime
        dsimp only
        split
        · rfl
        · rfl
      · rfl
    · rfl
  · rfl

theorem forSurvey_notices {f : SvId → State → State} (h : ∀ n s, (f n s).notices = s.notices) (s : State) :
    (forSurvey f s).notices = s.notices :=
  List.foldlRecOn (List.finRange 32) (motive := fun t : State => t.notices = s.notices) _ rfl
    fun t ht n _ => (h n t).trans ht

theorem releaseSegment_notices (i : SegId) (s : State) : (releaseSegment i s).notices = s.notices := by
  refine forSurvey_notices (fun n t => ?_) s
  split
  · exact releaseEntry_notices n t
  · rfl

theorem beginWork_notices (i : SegId) (w : Work) (lt : Option LtId) (script : List BusItem) (s : State) :
    (beginWork i w lt script s).notices = s.notices := by
  rw [beginWork_eq]
  rfl

theorem leaveDue_notices (n : SvId) (s : State) : (leaveDue n s).notices = s.notices := by
  unfold leaveDue
  split
  · rfl
  · rfl

theorem grant_notices (i : SegId) (c : Choice) (s : State) : (grant i c s).notices = s.notices := by
  cases c with
  | alert => exact beginWork_notices _ _ _ _ _
  | survey n =>
    unfold grant grantSurvey
    dsimp only
    split
    · split
      · exact (beginWork_notices _ _ _ _ _).trans (leaveDue_notices n s)
      · rfl
    · rfl
  | host k =>
    unfold grant grantHost
    dsimp only
    split
    · split
      · exact beginWork_notices _ _ _ _ _
      · rfl
    · rfl

theorem arbitrate_notices (i : SegId) (s : State) : (arbitrate i s).notices = s.notices := by
  unfold arbitrate
  split
  · split
    · rfl
    · split
      · exact grant_notices _ _ _
      · rfl
  · rfl

theorem forSegs_notices {f : SegId → State → State} (h : ∀ i s, (f i s).notices = s.notices) (s : State) :
    (forSegs f s).notices = s.notices :=
  List.foldlRecOn (List.finRange 4) (motive := fun t : State => t.notices = s.notices) _ rfl
    fun t ht i _ => (h i t).trans ht

theorem engineReset_notices (s : State) : (engineReset s).notices = ⟨[], 0⟩ := by
  refine (forSegs_notices (fun i t => ?_) _).trans ((forSegs_notices (fun i t => ?_) _).trans rfl)
  · unfold resetOpportunity
    split
    · exact arbitrate_notices i t
    · rfl
  · unfold resetRelease
    split
    · exact releaseSegment_notices i t
    · rfl

/-! ### What every engine reset leaves -/

/-- The contexts are free: no tag is held that was not held when the queues were emptied. -/
theorem engineReset_ctx (s : State) (c : CtxId) : (engineReset s).ctx c = none := by
  have none_held : heldTags (emptyQueues s) = [] := by
    rw [emptyQueues_eq]
    rfl
  cases hx : (engineReset s).ctx c with
  | none => rfl
  | some x =>
    have held : x.request.tag ∈ heldTags (engineReset s) :=
      List.mem_append_right _ (List.mem_filterMap.2 ⟨some x, by
        rw [toList_eq_map_look]; exact List.mem_map.2 ⟨c, List.mem_finRange c, hx⟩, rfl⟩)
    have := (engineReset_frame s).tags.subset held
    rw [none_held] at this
    cases this

theorem engineReset_completion (s : State) :
    (engineReset s).completion = { s.completion with posting := [], cq := [] } := by
  rw [(engineReset_cleared s).completion, emptyQueues_eq]

theorem engineReset_irq (s : State) :
    (engineReset s).irq = { s.irq with rqSpace := s.irq.rqSpace || s.rq.length == 32 } := by
  rw [(engineReset_cleared s).irq, emptyQueues_eq]

theorem engineReset_paused (s : State) : (engineReset s).paused = false := by
  rw [(engineReset_frame s).paused, emptyQueues_eq]

theorem engineReset_port (s : State) : (engineReset s).port = s.port := by
  rw [(engineReset_frame s).port, emptyQueues_eq]

theorem engineReset_timebase (s : State) : (engineReset s).timebase = s.timebase := by
  rw [(engineReset_frame s).timebase, emptyQueues_eq]

theorem emptyQueues_seg (s : State) (i : SegId) : (emptyQueues s).seg i = s.seg i := by
  rw [emptyQueues_eq]
  rfl

theorem engineReset_config (s : State) (i : SegId) : ((engineReset s).seg i).config = (s.seg i).config := by
  rw [(engineReset_frame s).config, emptyQueues_seg]

/-- R98: DISABLED and FAULTED segments stay so. -/
theorem engineReset_off (s : State) (i : SegId) (h : (s.seg i).state.isOff) :
    ((engineReset s).seg i).state = (s.seg i).state := by
  have same := emptyQueues_seg s i
  rw [← same] at h
  exact ((engineReset_cleared s).off i h).trans (congrArg _ same)

theorem engineReset_slot (s : State) (k : SlotId) : (engineReset s).slot k = none := by
  rw [State.slot, (engineReset_cleared s).slots, emptyQueues_eq]
  exact look_replicate _ k

theorem engineReset_binding (s : State) (lt : LtId) :
    BindingKept (s.entry lt).binding ((engineReset s).entry lt).binding := by
  have kept := (engineReset_frame s).binding lt
  rw [emptyQueues_eq] at kept
  exact kept

end Sys2Proof.Machine
end

section
/-! Engine reset with every transaction in TRANSFER and no segment RECOVERING (R18, R98, R166): O21. -/

namespace Sys2Proof.Machine

/-! ### Folds that rewrite one entry at a time -/

/-- A step per segment that rewrites the segment alone, from what stands there. -/
theorem foldl_segs {F : SegId → State → State} {f : SegId → Segment → Segment} {p : SegId → Segment → Prop}
    (step : ∀ i t, p i (t.seg i) → F i t = t.putSeg i (f i (t.seg i))) :
    ∀ (l : List SegId) (s : State), l.Nodup → (∀ i ∈ l, p i (s.seg i)) →
      (l.foldl (fun t i => F i t) s) = { s with segs := (l.foldl (fun t i => F i t) s).segs } ∧
      ∀ i, (l.foldl (fun t i => F i t) s).seg i = if i ∈ l then f i (s.seg i) else s.seg i
  | [], s, _, _ => ⟨rfl, fun i => by simp⟩
  | i :: l, s, hd, hp => by
    obtain ⟨fresh, hd⟩ := List.nodup_cons.1 hd
    have apart {j : SegId} (hj : j ∈ l) : i ≠ j := fun e => fresh (e ▸ hj)
    rw [List.foldl_cons, step i s (hp i List.mem_cons_self)]
    obtain ⟨only, seg⟩ := foldl_segs step l (s.putSeg i (f i (s.seg i))) hd fun j hj => by
      rw [State.seg_putSeg, if_neg (apart hj)]
      exact hp j (List.mem_cons_of_mem i hj)
    refine ⟨only, fun j => (seg j).trans ?_⟩
    by_cases hj : j ∈ l
    · rw [if_pos hj, if_pos (List.mem_cons_of_mem i hj), State.seg_putSeg, if_neg (apart hj)]
    · rw [if_neg hj, State.seg_putSeg]
      by_cases e : i = j
      · subst e
        rw [if_pos rfl, if_pos List.mem_cons_self]
      · rw [if_neg e, if_neg fun h => (List.mem_cons.1 h).elim (fun c => e c.symm) hj]

theorem forSegs_eq {F : SegId → State → State} {f : SegId → Segment → Segment} {p : SegId → Segment → Prop}
    (step : ∀ i t, p i (t.seg i) → F i t = t.putSeg i (f i (t.seg i))) (s : State)
    (h : ∀ i, p i (s.seg i)) : forSegs F s = { s with segs := (forSegs F s).segs } ∧
      ∀ i, (forSegs F s).seg i = f i (s.seg i) := by
  obtain ⟨only, seg⟩ := foldl_segs step (List.finRange 4) s (List.nodup_finRange 4) fun i _ => h i
  exact ⟨only, fun i => (seg i).trans (if_pos (List.mem_finRange i))⟩

/-! ### The survey entries (R166) -/

/-- R166: one survey entry. -/
theorem resetSurveyEntry_eq (n : SvId) (s : State) : resetSurveyEntry n s = s.putSv n { s.sv n with
    setup := (s.sv n).setup.map fun u => ⟨u.conf, u.run.whenReset s.timebase.time u.conf.period⟩ } := by
  unfold resetSurveyEntry
  cases h : (s.sv n).setup with
  | none =>
    have still : s.putSv n { s.sv n with setup := none } = s := by rw [← h]; exact State.putSv_sv s n
    exact still.symm
  | some u =>
    obtain ⟨c, r⟩ := u
    have still : s.putSv n { s.sv n with setup := some ⟨c, r⟩ } = s := by rw [← h]; exact State.putSv_sv s n
    cases r with
    | due d => exact putSvRun_of h _
    | reading d x =>
      cases x with
      | orphaned => exact putSvRun_of h _
      | waiting => exact putSvRun_of h _
      | stopped => exact putSvRun_of h _
    | stopped => exact still.symm
    | waiting d => exact still.symm
    | held => exact still.symm
    | orphaned => exact still.symm

theorem foldl_resetSurvey : ∀ (l : List SvId) (s : State), l.Nodup →
    (l.foldl (fun t n => resetSurveyEntry n t) s) =
      { s with survey := (l.foldl (fun t n => resetSurveyEntry n t) s).survey } ∧
    ∀ n, (l.foldl (fun t n => resetSurveyEntry n t) s).sv n = if n ∈ l then { s.sv n with
      setup := (s.sv n).setup.map fun u => ⟨u.conf, u.run.whenReset s.timebase.time u.conf.period⟩ }
      else s.sv n
  | [], s, _ => ⟨rfl, fun n => by simp⟩
  | n :: l, s, hd => by
    obtain ⟨fresh, hd⟩ := List.nodup_cons.1 hd
    have apart {m : SvId} (hm : m ∈ l) : n ≠ m := fun e => fresh (e ▸ hm)
    rw [List.foldl_cons, resetSurveyEntry_eq]
    obtain ⟨only, sv⟩ := foldl_resetSurvey l (s.putSv n { s.sv n with
      setup := (s.sv n).setup.map fun u => ⟨u.conf, u.run.whenReset s.timebase.time u.conf.period⟩ }) hd
    refine ⟨only, fun m => (sv m).trans ?_⟩
    by_cases hm : m ∈ l
    · rw [if_pos hm, if_pos (List.mem_cons_of_mem n hm), State.sv_putSv, if_neg (apart hm)]
      rfl
    · rw [if_neg hm, State.sv_putSv]
      by_cases e : n = m
      · subst e
        rw [if_pos rfl, if_pos List.mem_cons_self]
      · rw [if_neg e, if_neg fun h => (List.mem_cons.1 h).elim (fun c => e c.symm) hm]

theorem forSurvey_reset (s : State) :
    forSurvey resetSurveyEntry s = { s with survey := (forSurvey resetSurveyEntry s).survey } ∧
    ∀ n, (forSurvey resetSurveyEntry s).sv n = { s.sv n with
      setup := (s.sv n).setup.map fun u => ⟨u.conf, u.run.whenReset s.timebase.time u.conf.period⟩ } := by
  unfold forSurvey
  obtain ⟨only, sv⟩ := foldl_resetSurvey (List.finRange 32) s (List.nodup_finRange 32)
  exact ⟨only, fun n => (sv n).trans (if_pos (List.mem_finRange n))⟩

/-! ### The engines (R98) -/

/-- R98: a segment after engine reset, its lists empty already; BUSY in TRANSFER, IDLE, DISABLED or FAULTED. -/
def Segment.afterReset (g : Segment) : Segment :=
  match g.state with
  | .idle => { g with busFree := false }
  | .busy c => { g with state := .busy { c with stop := { c.stop with reset := true } }, busFree := false }
  | _ => g

/-- The transaction, if any, is in TRANSFER, and the segment is not RECOVERING. -/
def Segment.inTransfer (g : Segment) : Prop :=
  match g.state with
  | .recovering _ => False
  | .busy c => c.phase = .transfer
  | _ => True

theorem inTransfer_of {g : Segment} (h : g.state = .disabled ∨ g.state = .idle ∨
    (∃ r, g.state = .faulted r) ∨ ∃ c, g.state = .busy c ∧ c.phase = .transfer) : g.inTransfer := by
  unfold Segment.inTransfer
  rcases h with h | h | ⟨r, h⟩ | ⟨c, h, phase⟩
  · rw [h]; trivial
  · rw [h]; trivial
  · rw [h]; trivial
  · rw [h]; exact phase

theorem afterReset_off {g : Segment} (h : g.state.isOff) : g.afterReset = g := by
  unfold Segment.afterReset
  split
  · next e => rw [e] at h; exact h.elim
  · next c e => rw [e] at h; exact h.elim
  · rfl

theorem afterReset_idle {g : Segment} (h : g.state = .idle) : g.afterReset = { g with busFree := false } := by
  unfold Segment.afterReset
  rw [h]

theorem afterReset_busy {g : Segment} {c : Current} (h : g.state = .busy c) : g.afterReset =
    { g with state := .busy { c with stop := { c.stop with reset := true } }, busFree := false } := by
  unfold Segment.afterReset
  rw [h]

theorem resetEngine_eq (i : SegId) (s : State) (h : (s.seg i).inTransfer) :
    resetEngine i s = s.putSeg i (s.seg i).afterReset := by
  unfold Segment.inTransfer at h
  unfold resetEngine State.segState
  split
  · next e => rw [afterReset_off (by rw [e]; trivial), State.putSeg_seg]
  · next r e => rw [afterReset_off (by rw [e]; trivial), State.putSeg_seg]
  · next e => rw [afterReset_idle e]
  · next r e => rw [e] at h; exact h.elim
  · next c e =>
    have phase : c.phase = .transfer := by rw [e] at h; exact h
    rw [afterReset_busy e]
    simp only [phase]

/-! ### The arbiter of an emptied segment (R92, R94) -/

/-- What a grant opportunity makes of an IDLE segment with nothing listed. -/
def Segment.offered (g : Segment) : Segment :=
  if stuckCheckFails g then { g with state := .recovering ⟨0, .check, none⟩, busFree := false }
  else if alertCalled g then
    ({ g with consecHost := 0 } : Segment).granted .alert none [.addressRead g.config.alertAddress, .read false]
  else g

theorem arbitrate_emptied {i : SegId} {s : State} (idle : (s.seg i).state = .idle)
    (hl : (s.seg i).pendingList = []) (hd : (s.seg i).dueList = []) :
    arbitrate i s = s.putSeg i (s.seg i).offered := by
  unfold arbitrate Segment.offered
  rw [if_pos (segState_isIdle idle)]
  by_cases stuck : stuckCheckFails (s.seg i) = true
  · rw [if_pos stuck, if_pos stuck]
    rfl
  · rw [if_neg stuck, if_neg stuck]
    by_cases called : alertCalled (s.seg i) = true
    · rw [choose_alert called, if_pos called]
      have consec : (if (s.seg i).dueList = [] then 0 else (s.seg i).consecHost) = 0 := if_pos hd
      exact (grant_alert s i).trans (by rw [consec])
    · rw [choose_nothing called hd (by rw [eligible, hl]; rfl), if_neg called]
      exact (State.putSeg_seg s i).symm

theorem offered_dueList (g : Segment) : g.offered.dueList = g.dueList := by
  unfold Segment.offered Segment.granted
  split
  · rfl
  · split
    · split
      · rfl
      · rfl
    · rfl

/-- BUS_FREE no stays no. -/
theorem offered_busFree {g : Segment} (h : g.busFree = false) : g.offered.busFree = false := by
  unfold Segment.offered Segment.granted
  split
  · rfl
  · split
    · split
      · rfl
      · rfl
    · exact h

/-! ### The map (R18) -/

/-- R18: an entry that the reset frees. -/
def State.frees (s : State) (lt : LtId) : Bool :=
  !leftInProgress s lt && (s.entry lt).binding.any (·.state == .draining)

/-- R18: a map entry after engine reset. -/
def State.entryReset (s : State) (lt : LtId) : MapEntry :=
  if leftInProgress s lt then { s.entry lt with refCount := 1 }
  else if s.frees lt then .free else { s.entry lt with refCount := 0 }

/-- R6, R18: a survey entry whose LT `freed` names is ORPHANED. -/
def SurveyEntry.orphanedBy (v : SurveyEntry) (freed : LtId → Bool) : SurveyEntry :=
  { v with setup := v.setup.map fun u => if freed u.conf.lt then ⟨u.conf, .orphaned⟩ else u }

theorem orphanedBy_none {v : SurveyEntry} {freed : LtId → Bool} (h : ∀ lt, freed lt = false) :
    v.orphanedBy freed = v := by
  unfold SurveyEntry.orphanedBy
  simp only [h, Bool.false_eq_true, if_false]
  cases v with
  | mk setup _ _ _ => cases setup <;> rfl

/-- R18: an entry that is not freed keeps its binding, its references counted anew. -/
theorem resetMapEntry_keeps {s : State} {lt : LtId} (h : s.frees lt = false) :
    resetMapEntry lt s = s.putEntry lt (s.entryReset lt) := by
  unfold resetMapEntry State.entryReset
  rw [h]
  dsimp only
  split
  · rfl
  · next off =>
    split
    · next b hb =>
      refine if_neg fun draining => ?_
      have : s.frees lt = true := by simp [State.frees, off, hb, draining]
      rw [h] at this
      cases this
    · rfl

theorem orphanedBy_orphanedBy (v : SurveyEntry) (p q : LtId → Bool) :
    (v.orphanedBy p).orphanedBy q = v.orphanedBy fun k => p k || q k := by
  unfold SurveyEntry.orphanedBy
  rw [Option.map_map]
  refine congrArg (fun f => { v with setup := v.setup.map f }) (funext fun u => ?_)
  cases hp : p u.conf.lt <;> cases hq : q u.conf.lt <;> simp [hp, hq]

/-- R18: a retirement at engine reset posts nothing. -/
theorem completeRetirement_silent (lt : LtId) (b : Binding) (s : State) :
    completeRetirement lt b false s = (orphanTarget lt s).putEntry lt .free := rfl

theorem frees_iff {s : State} {lt : LtId} : s.frees lt = true ↔
    leftInProgress s lt = false ∧ ∃ b, (s.entry lt).binding = some b ∧ b.state = .draining := by
  unfold State.frees
  cases (s.entry lt).binding <;> simp

/-- R6, R18: a DRAINING entry that no transaction names becomes FREE, with its survey entries ORPHANED. -/
theorem resetMapEntry_frees {s : State} {lt : LtId} (h : s.frees lt = true)
    (due : ∀ i, (s.seg i).dueList = []) : ∃ v, resetMapEntry lt s = { s with map := put s.map lt .free, survey := v } ∧
      ∀ n, look v n = (s.sv n).orphanedBy (· == lt) := by
  obtain ⟨off, b, hb, draining⟩ := frees_iff.1 h
  obtain ⟨w, hw⟩ : ∃ w, w = s.putEntry lt { s.entry lt with refCount := 0 } := ⟨_, rfl⟩
  have bound : (w.entry lt).binding = some b := by rw [hw, State.entry_putEntry_self]; exact hb
  have moved := orphanTarget_moved bound
  have still := moved.segs (by rw [hw]; exact due b.segment)
  have retired : resetMapEntry lt s = (orphanTarget lt w).putEntry lt .free := by
    unfold resetMapEntry
    dsimp only
    rw [if_neg (by rw [off]; exact nofun), ← hw, hb]
    dsimp only
    rw [if_pos draining, completeRetirement_silent]
  refine ⟨(orphanTarget lt w).survey, ?_, fun n => (moved.2.1 n).trans ?_⟩
  · rw [retired, still, hw]
    simp [State.putEntry]
  · have each : (fun u : SurveySetup => (⟨u.conf, if u.conf.lt = lt then .orphaned else u.run⟩ : SurveySetup)) =
        fun u => if (u.conf.lt == lt) = true then ⟨u.conf, .orphaned⟩ else u := by
      funext u
      by_cases e : u.conf.lt = lt
      · rw [if_pos e, if_pos (by simpa using e)]
      · rw [if_neg e, if_neg (by simpa using e)]
    rw [each, hw]
    rfl

/-- R18: one map entry, and the survey entries that name it. -/
theorem resetMapEntry_spec {s : State} (lt : LtId) (due : ∀ i, (s.seg i).dueList = []) :
    resetMapEntry lt s = { s with map := (resetMapEntry lt s).map, survey := (resetMapEntry lt s).survey } ∧
    (∀ n, (resetMapEntry lt s).entry n = if lt = n then s.entryReset lt else s.entry n) ∧
    ∀ n, (resetMapEntry lt s).sv n = (s.sv n).orphanedBy fun k => k == lt && s.frees lt := by
  cases h : s.frees lt with
  | false =>
    rw [resetMapEntry_keeps h]
    refine ⟨rfl, fun n => State.entry_putEntry _ _ _ _, fun n => (orphanedBy_none fun k => ?_).symm⟩
    exact Bool.and_false _
  | true =>
    obtain ⟨v, same, sv⟩ := resetMapEntry_frees h due
    have freed : s.entryReset lt = .free := by
      rw [State.entryReset, if_neg (by rw [(frees_iff.1 h).1]; exact nofun), if_pos h]
    rw [same]
    refine ⟨rfl, fun n => ?_, fun n => (sv n).trans ?_⟩
    · rw [freed]
      exact State.entry_putEntry _ _ _ _
    · simp only [Bool.and_true]

/-! ### The map as a whole (R18) -/

theorem foldl_resetMap : ∀ (l : List LtId) (s : State), l.Nodup → (∀ i, (s.seg i).dueList = []) →
    (l.foldl (fun t lt => resetMapEntry lt t) s) = { s with
      map := (l.foldl (fun t lt => resetMapEntry lt t) s).map
      survey := (l.foldl (fun t lt => resetMapEntry lt t) s).survey } ∧
    (∀ n, (l.foldl (fun t lt => resetMapEntry lt t) s).entry n =
      if n ∈ l then s.entryReset n else s.entry n) ∧
    ∀ n, (l.foldl (fun t lt => resetMapEntry lt t) s).sv n =
      (s.sv n).orphanedBy fun k => decide (k ∈ l) && s.frees k
  | [], s, _, _ => ⟨rfl, fun n => by simp, fun n => (orphanedBy_none fun k => by simp).symm⟩
  | lt :: l, s, hd, due => by
    obtain ⟨fresh, hd⟩ := List.nodup_cons.1 hd
    obtain ⟨only1, entry1, sv1⟩ := resetMapEntry_spec lt due
    obtain ⟨t, ht⟩ : ∃ t, t = resetMapEntry lt s := ⟨_, rfl⟩
    rw [← ht] at only1 entry1 sv1
    have progress (k : LtId) : leftInProgress t k = leftInProgress s k := by rw [only1]; rfl
    have apart {k : LtId} (hk : k ∈ l) : t.entry k = s.entry k := by
      rw [entry1, if_neg]
      rintro rfl
      exact fresh hk
    have frees {k : LtId} (hk : k ∈ l) : t.frees k = s.frees k := by
      rw [State.frees, progress, apart hk]
      rfl
    obtain ⟨only, entry, sv⟩ := foldl_resetMap l t hd fun i => by rw [only1]; exact due i
    rw [List.foldl_cons, ← ht]
    refine ⟨only.trans (by rw [only1]), fun n => (entry n).trans ?_, fun n => (sv n).trans ?_⟩
    · by_cases hn : n ∈ l
      · rw [if_pos hn, if_pos (List.mem_cons_of_mem lt hn), State.entryReset, progress, apart hn, frees hn]
        rfl
      · rw [if_neg hn, entry1]
        by_cases e : lt = n
        · subst e
          rw [if_pos rfl, if_pos List.mem_cons_self]
        · rw [if_neg e, if_neg fun h => (List.mem_cons.1 h).elim (fun c => e c.symm) hn]
    · rw [sv1, orphanedBy_orphanedBy]
      refine congrArg _ (funext fun k => ?_)
      by_cases e : k = lt
      · subst e
        simp [fresh]
      · by_cases hk : k ∈ l
        · simp [e, hk, frees hk]
        · simp [e, hk]

theorem resetMap_spec (s : State) (due : ∀ i, (s.seg i).dueList = []) :
    resetMap s = { s with map := (resetMap s).map, survey := (resetMap s).survey } ∧
    (∀ n, (resetMap s).entry n = s.entryReset n) ∧
    ∀ n, (resetMap s).sv n = (s.sv n).orphanedBy s.frees := by
  unfold resetMap
  obtain ⟨only, entry, sv⟩ := foldl_resetMap (List.finRange 64) s (List.nodup_finRange 64) due
  refine ⟨only, fun n => (entry n).trans (if_pos (List.mem_finRange n)), fun n => (sv n).trans ?_⟩
  simp only [List.mem_finRange, decide_true, Bool.true_and]

end Sys2Proof.Machine
end

section
/-! Engine reset (R186), as a whole: O21. -/

namespace Sys2Proof.Machine

/-! ### The parts, one after another -/

theorem emptyQueues_map (s : State) : (emptyQueues s).map = s.map := by rw [emptyQueues_eq]
theorem emptyQueues_survey (s : State) : (emptyQueues s).survey = s.survey := by rw [emptyQueues_eq]
theorem emptyQueues_timebase (s : State) : (emptyQueues s).timebase = s.timebase := by rw [emptyQueues_eq]

theorem sv_withSegs (s : State) (segs : Vector Segment 4) (n : SvId) :
    ({ s with segs := segs } : State).sv n = s.sv n := rfl

theorem entry_withSegs (s : State) (segs : Vector Segment 4) (lt : LtId) :
    ({ s with segs := segs } : State).entry lt = s.entry lt := rfl

theorem emptied_sv (s : State) (n : SvId) : s.emptied.sv n = { s.sv n with
    setup := (s.sv n).setup.map fun u => ⟨u.conf, u.run.whenReset s.timebase.time u.conf.period⟩ } := by
  have before : (emptyQueues s).sv n = s.sv n := by rw [State.sv, emptyQueues_survey]; rfl
  have sv := (forSurvey_reset (emptyQueues s)).2 n
  rw [emptyQueues_timebase, before] at sv
  exact (sv_withSegs _ _ n).trans sv

theorem emptied_map (s : State) : s.emptied.map = s.map := by
  unfold State.emptied
  rw [(forSurvey_reset (emptyQueues s)).1]
  exact emptyQueues_map s

theorem emptied_entry (s : State) (lt : LtId) : s.emptied.entry lt = s.entry lt := by
  rw [State.entry, emptied_map]
  rfl

theorem afterReset_dueList (g : Segment) : g.afterReset.dueList = g.dueList := by
  unfold Segment.afterReset
  split <;> rfl

theorem afterReset_pendingList (g : Segment) : g.afterReset.pendingList = g.pendingList := by
  unfold Segment.afterReset
  split <;> rfl

/-- A segment after engine reset names the LT it named. -/
theorem afterReset_names (g : Segment) (lt : LtId) :
    (∃ c, g.afterReset.state = .busy c ∧ c.lt = some lt) ↔ ∃ c, g.state = .busy c ∧ c.lt = some lt := by
  cases st : g.state with
  | disabled => rw [afterReset_off (by rw [st]; trivial), st]
  | faulted r => rw [afterReset_off (by rw [st]; trivial), st]
  | idle => rw [afterReset_idle st]; simp [st]
  | recovering r =>
    have same : g.afterReset = g := by unfold Segment.afterReset; rw [st]
    rw [same, st]
  | busy c => rw [afterReset_busy st]; simp

theorem leftInProgress_iff {s : State} {lt : LtId} : leftInProgress s lt = true ↔ s.inProgress lt := by
  unfold leftInProgress State.inProgress State.segState
  rw [List.any_eq_true]
  refine exists_congr fun i => ?_
  cases (s.seg i).state <;> simp

/-- R92: what the opportunity at the end of the reset makes of a segment of `s`. -/
def State.lastOffer (s : State) (i : SegId) (g : Segment) : Segment :=
  if g.state.isIdle = true ∧ (¬ (s.segState i).isIdle = true ∨ (s.seg i).pendingList ≠ []) then g.offered else g

theorem isIdle_eq {st : SegState} (h : st.isIdle = true) : st = .idle := by
  cases st with
  | idle => rfl
  | disabled | busy _ | recovering _ | faulted _ => exact nomatch h

theorem resetOpportunity_eq {s : State} (i : SegId) (t : State)
    (empty : (t.seg i).pendingList = [] ∧ (t.seg i).dueList = []) :
    resetOpportunity s i t = t.putSeg i (s.lastOffer i (t.seg i)) := by
  obtain ⟨hl, hd⟩ := empty
  unfold resetOpportunity State.lastOffer
  split
  · next offer => exact (arbitrate_emptied (isIdle_eq offer.1) hl hd).trans (congrArg _ (if_pos offer).symm)
  · next quiet => exact (State.putSeg_seg t i).symm.trans (congrArg _ (if_neg quiet).symm)

/-- The state of the engines and the survey before the map follows. -/
def State.enginesReset (s : State) : State := forSegs resetEngine s.emptied

section
variable {s : State} (h : ∀ i, (s.seg i).inTransfer)
include h

theorem enginesReset_spec : s.enginesReset = { s.emptied with segs := s.enginesReset.segs } ∧
    ∀ i, s.enginesReset.seg i = (emptySegment (s.seg i)).afterReset := by
  obtain ⟨only, seg⟩ := forSegs_eq (p := fun _ g => g.inTransfer) (f := fun _ g => g.afterReset) resetEngine_eq
    s.emptied fun i => by rw [emptied_seg]; exact h i
  exact ⟨only, fun i => by rw [State.enginesReset, seg, emptied_seg]⟩

theorem enginesReset_inProgress (lt : LtId) : leftInProgress s.enginesReset lt = true ↔ s.inProgress lt := by
  rw [leftInProgress_iff]
  refine exists_congr fun i => ?_
  rw [(enginesReset_spec h).2]
  exact afterReset_names _ lt

theorem engineReset_eq : engineReset s = forSegs (resetOpportunity s) (emptyNotices (resetMap s.enginesReset)) := by
  have none_recovering (i : SegId) (t : State) : resetRelease s i t = t := by
    unfold resetRelease
    split
    · next r st =>
      have := h i
      unfold Segment.inTransfer at this
      rw [show (s.seg i).state = .recovering r from st] at this
      exact this.elim
    · rfl
  have still : forSegs (resetRelease s) (emptyNotices (resetMap s.enginesReset)) =
      emptyNotices (resetMap s.enginesReset) := foldl_still _ _ _ fun i _ => none_recovering i _
  calc engineReset s
      = forSegs (resetOpportunity s) (forSegs (resetRelease s) (emptyNotices (resetMap s.enginesReset))) := rfl
    _ = _ := by rw [still]

/-- R18, R92, R98, R166: what the reset leaves of the segments, the map and the survey entries. -/
theorem engineReset_spec : (∀ i, (engineReset s).seg i = s.lastOffer i (emptySegment (s.seg i)).afterReset) ∧
    (∀ lt, (engineReset s).entry lt = s.enginesReset.entryReset lt) ∧
    ∀ n, (engineReset s).sv n = (s.enginesReset.sv n).orphanedBy s.enginesReset.frees := by
  obtain ⟨-, engines⟩ := enginesReset_spec h
  obtain ⟨m, hm⟩ : ∃ m, m = resetMap s.enginesReset := ⟨_, rfl⟩
  obtain ⟨mapped, entry, sv⟩ := resetMap_spec s.enginesReset
    fun i => by rw [engines, afterReset_dueList]; rfl
  rw [← hm] at mapped entry sv
  have segs (i : SegId) : (emptyNotices m).seg i = (emptySegment (s.seg i)).afterReset := by
    rw [← engines, mapped]
    rfl
  obtain ⟨only, seg⟩ := forSegs_eq (F := resetOpportunity s) (f := s.lastOffer)
    (p := fun _ g => g.pendingList = [] ∧ g.dueList = []) resetOpportunity_eq (emptyNotices m)
    fun i => by rw [segs, afterReset_pendingList, afterReset_dueList]; exact ⟨rfl, rfl⟩
  obtain ⟨t, ht⟩ : ∃ t, t = forSegs (resetOpportunity s) (emptyNotices m) := ⟨_, rfl⟩
  rw [engineReset_eq h, ← hm, ← ht]
  rw [← ht] at only seg
  refine ⟨fun i => by rw [seg, segs], fun lt => ?_, fun n => ?_⟩
  · rw [← entry, only]
    rfl
  · rw [← sv, only]
    rfl

end

/-! ### With every transaction in TRANSFER -/

section
variable {s : State} (h : ∀ i, (s.seg i).inTransfer)
include h

theorem engineReset_dueList (i : SegId) : ((engineReset s).seg i).dueList = [] := by
  rw [(engineReset_spec h).1, State.lastOffer]
  have empty : (emptySegment (s.seg i)).afterReset.dueList = [] := afterReset_dueList _
  split
  · exact (offered_dueList _).trans empty
  · exact empty

theorem engineReset_busy {i : SegId} {c : Current} (hc : (s.seg i).state = .busy c) :
    ((engineReset s).seg i).busFree = false ∧
      ((engineReset s).seg i).state = .busy { c with stop := { c.stop with reset := true } } := by
  have busy : (emptySegment (s.seg i)).afterReset = _ := afterReset_busy hc
  rw [(engineReset_spec h).1, State.lastOffer, busy, if_neg fun e => nomatch e.1]
  exact ⟨rfl, rfl⟩

theorem engineReset_idle {i : SegId} (hi : (s.seg i).state = .idle) :
    ((engineReset s).seg i).busFree = false ∧
      ((s.seg i).pendingList = [] → ((engineReset s).seg i).state = .idle) := by
  have idle : (emptySegment (s.seg i)).afterReset = _ := afterReset_idle hi
  have still : (s.segState i).isIdle = true := segState_isIdle hi
  rw [(engineReset_spec h).1, State.lastOffer, idle]
  refine ⟨?_, fun empty => ?_⟩
  · split
    · exact offered_busFree rfl
    · rfl
  · rw [if_neg fun e => e.2.elim (fun c => c still) fun c => c empty]
    exact hi

theorem enginesReset_entry (lt : LtId) : s.enginesReset.entry lt = s.entry lt := by
  rw [← emptied_entry s lt, (enginesReset_spec h).1]
  exact entry_withSegs s.emptied _ lt

theorem enginesReset_sv (n : SvId) : s.enginesReset.sv n = { s.sv n with
    setup := (s.sv n).setup.map fun u => ⟨u.conf, u.run.whenReset s.timebase.time u.conf.period⟩ } := by
  rw [← emptied_sv s n, (enginesReset_spec h).1]
  exact sv_withSegs s.emptied _ n

theorem enginesReset_frees (lt : LtId) : s.enginesReset.frees lt = true ↔
    ¬ s.inProgress lt ∧ ∃ b, (s.entry lt).binding = some b ∧ b.state = .draining := by
  rw [frees_iff, enginesReset_entry h, ← Bool.not_eq_true, enginesReset_inProgress h]

/-- R18: the map. -/
theorem engineReset_entry (lt : LtId) :
    let drained := ∃ b, (s.entry lt).binding = some b ∧ b.state = .draining
    (s.inProgress lt → (engineReset s).entry lt = { s.entry lt with refCount := 1 }) ∧
    (¬ s.inProgress lt → drained → (engineReset s).entry lt = ⟨none, 0, 0⟩) ∧
    (¬ s.inProgress lt → ¬ drained → (engineReset s).entry lt = { s.entry lt with refCount := 0 }) := by
  have frees := enginesReset_frees h lt
  have named := enginesReset_inProgress h lt
  rw [(engineReset_spec h).2.1, State.entryReset, enginesReset_entry h]
  refine ⟨fun busy => if_pos (named.2 busy), fun idle drained => ?_, fun idle kept => ?_⟩
  · rw [if_neg (mt named.1 idle), if_pos (frees.2 ⟨idle, drained⟩)]
    rfl
  · rw [if_neg (mt named.1 idle), if_neg fun c => kept (frees.1 c).2]

/-- R166: the survey. -/
theorem engineReset_sv (n : SvId) : ((s.sv n).setup = none → (engineReset s).sv n = s.sv n) ∧
    ∀ c r, (s.sv n).setup = some ⟨c, r⟩ →
      let drained := ∃ b, (s.entry c.lt).binding = some b ∧ b.state = .draining
      (drained → ¬ s.inProgress c.lt →
        (engineReset s).sv n = { s.sv n with setup := some ⟨c, .orphaned⟩ }) ∧
      (¬ drained ∨ s.inProgress c.lt → (engineReset s).sv n = { s.sv n with
        setup := some ⟨c, r.whenReset s.timebase.time c.period⟩ }) := by
  rw [(engineReset_spec h).2.2, enginesReset_sv h, SurveyEntry.orphanedBy]
  refine ⟨fun unused => ?_, fun c r hn => ⟨fun drained idle => ?_, fun kept => ?_⟩⟩
  · rw [unused]
    exact congrArg (fun u => { s.sv n with setup := u }) unused.symm
  · have freed := (enginesReset_frees h c.lt).2 ⟨idle, drained⟩
    rw [hn]
    exact congrArg (fun u => { s.sv n with setup := some u }) (if_pos freed)
  · have stays : ¬ s.enginesReset.frees c.lt = true := fun freed => by
      obtain ⟨idle, drained⟩ := (enginesReset_frees h c.lt).1 freed
      exact kept.elim (fun k => k drained) idle
    rw [hn]
    exact congrArg (fun u => { s.sv n with setup := some u }) (if_neg stays)

end

/-- Settles O21: what every engine reset leaves, and what one leaves with every transaction in TRANSFER. -/
theorem engineResetEmptiesQueues : Obligations.EngineResetEmptiesQueues := by
  intro s rest h
  obtain ⟨u, hu⟩ : ∃ u, u = s.leaving rest := ⟨_, rfl⟩
  have seg (i : SegId) : u.seg i = s.seg i := by rw [hu]; rfl
  have at_hand := exec_engineReset_at h
  have cleared := engineReset_cleared u
  have rq := cleared.rq
  have lists := cleared.lists
  have consec := cleared.consec
  have alert := cleared.alert
  have ctx := engineReset_ctx u
  have slot := engineReset_slot u
  have completion := engineReset_completion u
  have paused := engineReset_paused u
  have notices := engineReset_notices u
  have port := engineReset_port u
  have timebase := engineReset_timebase u
  have groups := engineReset_groups u
  have irq := engineReset_irq u
  have config := engineReset_config u
  have off := engineReset_off u
  have binding := engineReset_binding u
  have due := engineReset_dueList (s := u)
  have busy := engineReset_busy (s := u)
  have idle := engineReset_idle (s := u)
  have entry := engineReset_entry (s := u)
  have sv := engineReset_sv (s := u)
  rw [← hu] at at_hand ⊢
  clear cleared
  generalize engineReset u = t at *
  have stays (i : SegId) (hi : (s.seg i).state.isOff) : (t.seg i).state = (s.seg i).state := by
    rw [off i (by rw [seg]; exact hi), seg]
  subst hu
  refine ⟨judgeIrq t, at_hand, rq, ctx, slot, completion, paused, notices, port, timebase, groups,
    congrArg (·.enables) irq, congrArg (·.hostMisuse) irq, congrArg (·.rqSpace) irq,
    fun i => ⟨config i, lists i, consec i, alert i⟩, fun i hi => ?_, fun i r hi => ?_, binding, fun quiet => ?_⟩
  · exact (stays i (by rw [hi]; trivial)).trans hi
  · exact (stays i (by rw [hi]; trivial)).trans hi
  · have transfers (i : SegId) : ((s.leaving rest).seg i).inTransfer := inTransfer_of (quiet i)
    exact ⟨due transfers, fun i c => busy transfers, fun i => idle transfers, entry transfers, sv transfers⟩

end Sys2Proof.Machine
end
